-- ==== Sys2Proof/Word.lean ====
section
/-! DEFINITION. The word and byte types of the OTPE: the bus data width is 32 bits (spec/00_scope.md R7), a buffer
byte is 8 bits (spec/20_memory.md R75). -/

namespace Sys2Proof

/-- A 32-bit register or bus data word. -/
abbrev Word := BitVec 32

/-- One byte of a byte sequence (spec/00_scope.md R9). -/
abbrev Byte := BitVec 8

end Sys2Proof
end

