-- ==== Sys2Proof/Syntax.lean ====
section
/-! DEFINITION. The syntax of the OTPE: its seven commands and their word format (spec/30_encoding.md R100, R102), the
register names (spec/10_state.md R23), the actions of the outside world (spec/20_memory.md R72, spec/70 R300) and the
host-sequence notation (spec/30_encoding.md R107). -/

namespace Sys2Proof

/-- The seven commands, one constructor per row of spec/opcode_table.json (R102). There are no immediates (R103), so
no constructor has a field. -/
inductive Instr where
  | nop
  | trunc
  | hotpGen
  | totpGen
  | hotpVal
  | totpVal
  | zeroize
  deriving DecidableEq, Repr

/-- The one command format CMDW (R100): OPCODE is bits [7:0], RSVD is bits [31:8]. -/
structure CmdWord where
  opcode : BitVec 8
  rsvd   : BitVec 24
  deriving DecidableEq, Repr

/-- The named registers of the window (spec/10_state.md R23). -/
inductive Reg where
  | id | version | ctrl | status | cmd | cfg | timeStep | keyLen
  | counterLo | counterHi | timeLo | timeHi | candLen | dinLen
  | cand (k : Fin 4)
  | din (k : Fin 5)
  | key (k : Fin 16)
  | truncVal | otpBin | otpLen
  | otpAscii (k : Fin 3)
  | tctrLo | tctrHi | vres | matchCtrLo | matchCtrHi
  deriving DecidableEq, Repr

/-- What the outside world can do to the OTPE in one step: a bus transaction at a system address, of some size in
bytes (R71 to R73), a POLL, which is the same read repeated until `data &&& mask = value` (R107), or the reset input
held low (spec/70_reset_and_hazards.md R300). -/
inductive HostAction where
  | read  (addr : Nat) (size : Nat)
  | write (addr : Nat) (size : Nat) (data : Word)
  | poll  (addr : Nat) (mask value : Word)
  | resetInput
  deriving DecidableEq, Repr

/-- One line of the host-sequence notation (R107). `wr`, `rd` and `poll` are its operations at a register offset, the
others its pseudo-operations. A `poll` names its field by the field's highest and lowest bit. -/
inductive HostOp where
  | wr       (off : Nat) (v : Word)
  | rd       (off : Nat) (expected : Option Word)
  | poll     (off : Nat) (hi lo : Nat) (v : Nat)
  | cmd      (i : Instr)
  | wait
  | ack
  | loadKey  (s : List Byte)
  | loadCand (s : List Byte)
  | loadDin  (s : List Byte)
  | setCtr   (n : Nat)
  | setTime  (n : Nat)
  | setCfg   (digits lookahead : Nat)
  deriving DecidableEq, Repr

end Sys2Proof
end

