-- ==== Sys2Proof/WellFormed.lean ====
section
/-! DEFINITION. The well-formedness checks: of a command word (spec/30_encoding.md R100 to R102), of a bus transaction
(spec/20_memory.md R73) and of a line of the host-sequence notation (R107, R108). -/

namespace Sys2Proof

/-- The seven values of OPCODE (R102); every other value is illegal. -/
def legalOpcodes : List (BitVec 8) := [0x00, 0x01, 0x02, 0x03, 0x04, 0x05, 0x0F]

/-- RSVD must be 0 (R100). -/
def CmdWord.reservedClear (c : CmdWord) : Bool := c.rsvd == 0

/-- OPCODE is one of the seven (R102). -/
def CmdWord.opcodeDefined (c : CmdWord) : Bool := legalOpcodes.contains c.opcode

/-- A legal command word (R101). -/
def CmdWord.wellFormed (c : CmdWord) : Bool := c.reservedClear && c.opcodeDefined

/-- Every command is well formed: it has no field (R103 "There are no immediates"). -/
def Instr.wellFormed : Instr → Bool
  | .nop | .trunc | .hotpGen | .totpGen | .hotpVal | .totpVal | .zeroize => true

/-- A transaction the slave supports: 32 bits wide and naturally aligned (R73). The offset of a system address is
aligned exactly when the address is, because OTPE_BASE is (R71). -/
def HostAction.wellFormed : HostAction → Bool
  | .read addr size => addr % 4 == 0 && size == 4
  | .write addr size _ => addr % 4 == 0 && size == 4
  | .poll addr _ _ => addr % 4 == 0
  | .resetInput => true

/-- A line the notation can write (R107): offsets inside the window and aligned, a field inside the register with a
value that fits it, a key of at most 64 bytes, a candidate of at most 16, a digest of exactly 20, 64-bit counters and
times, and CFG fields that fit CFG. -/
def HostOp.wellFormed : HostOp → Bool
  | .wr off _ => off % 4 == 0 && decide (off < 4096)
  | .rd off _ => off % 4 == 0 && decide (off < 4096)
  | .poll off hi lo v =>
    off % 4 == 0 && decide (off < 4096) && decide (lo ≤ hi) && decide (hi < 32) && decide (v < 2 ^ (hi + 1 - lo))
  | .cmd i => i.wellFormed
  | .wait => true
  | .ack => true
  | .loadKey s => decide (s.length ≤ 64)
  | .loadCand s => decide (s.length ≤ 16)
  | .loadDin s => s.length == 20
  | .setCtr n => decide (n < 2 ^ 64)
  | .setTime n => decide (n < 2 ^ 64)
  | .setCfg digits lookahead => decide (digits < 16) && decide (lookahead < 256)

end Sys2Proof
end

