-- ==== Sys2Proof/Decode.lean ====
section
/-! DEFINITION. The decoder of command words, total on every 32-bit word and rejecting by name
(spec/30_encoding.md R100 to R102, R105), and after it the encoder. The unit of decoding is the whole 32-bit word of one
CMD write (R100), not a byte stream (log 9). -/

namespace Sys2Proof

/-- Why a word is no command (R101, R105). Both reasons complete with ILLEGAL_CMD. -/
inductive DecodeError where
  /-- Some bit of RSVD is 1. -/
  | reservedBitsSet
  /-- OPCODE is none of the seven values of R102. -/
  | undefinedOpcode
  deriving DecidableEq, Repr

/-- The fields of a word (R100): OPCODE [7:0], RSVD [31:8]. -/
def CmdWord.ofWord (w : Word) : CmdWord := { opcode := w.extractLsb' 0 8, rsvd := w.extractLsb' 8 24 }

/-- The opcode map (R102); the table is exhaustive. -/
def decodeOpcode (op : BitVec 8) : Except DecodeError Instr :=
  match op.toNat with
  | 0x00 => .ok .nop
  | 0x01 => .ok .trunc
  | 0x02 => .ok .hotpGen
  | 0x03 => .ok .totpGen
  | 0x04 => .ok .hotpVal
  | 0x05 => .ok .totpVal
  | 0x0F => .ok .zeroize
  | _ => .error .undefinedOpcode

/-- Decoding (R101, R247): RSVD is checked first, then OPCODE. -/
def decode (w : Word) : Except DecodeError Instr :=
  let c := CmdWord.ofWord w
  if c.rsvd = 0 then decodeOpcode c.opcode else .error .reservedBitsSet

/-- The decoder on a word numbered as spec/opcode_table.json numbers it. A command is one 32-bit word, so bits above
31 belong to no command. -/
def decodeTableWord (nbits w : Nat) : Option Instr :=
  let v := w % 2 ^ nbits
  if v < 2 ^ 32 then (decode (BitVec.ofNat 32 v)).toOption else none

/-- OPCODE of each command (R102). -/
def Instr.opcode : Instr → BitVec 8
  | .nop => 0x00
  | .trunc => 0x01
  | .hotpGen => 0x02
  | .totpGen => 0x03
  | .hotpVal => 0x04
  | .totpVal => 0x05
  | .zeroize => 0x0F

/-- The word of a format's fields (R100). -/
def CmdWord.toWord (c : CmdWord) : Word := c.rsvd ++ c.opcode

/-- The fields of a command: RSVD is 0 (R100). -/
def Instr.cmdWord (i : Instr) : CmdWord := { opcode := i.opcode, rsvd := 0 }

/-- The command word of a command (R102). -/
def encode (i : Instr) : Word := i.cmdWord.toWord

end Sys2Proof
end

