-- ==== Sys2Proof/Config.lean ====
section
/-! DEFINITION. The two OPEN parameters of the spec (spec/00_scope.md R7): constants without a body, so that nothing
can be proved of their values. -/

namespace Sys2Proof

/-- OTPE_BASE divided by 4096 (R7, R71): OPEN, the platform's choice. -/
opaque Config.otpeBasePage : Nat

/-- OTPE_BASE: the system address of the register window, aligned to 4096 bytes by construction (R71). -/
def Config.otpeBase : Nat := 4096 * Config.otpeBasePage

/-- CMD_LATENCY (R7, R248): OPEN, finite and unbounded. The FREE VALUE for the n-th accepted command: how many of the
pending host and reset steps come before its completion (log 2). -/
opaque Config.cmdLatency : Nat → Nat

end Sys2Proof
end

