-- ==== Sys2Proof/Machine/Bytes.lean ====
section
/-! DEFINITION. Byte sequences, byte order and the packing of byte buffers into words (spec/00_scope.md R9, R10;
spec/20_memory.md R75, R76). -/

namespace Sys2Proof.Machine

/-- `int_BE(s)`: the number whose big-endian encoding is `s` (R9). -/
def intBE (s : List Byte) : Nat := s.foldl (fun n b => 256 * n + b.toNat) 0

/-- `BE_n(v)`: the n-byte big-endian encoding of `v`, most significant byte first (R9). -/
def beBytes : Nat → Nat → List Byte
  | 0, _ => []
  | n + 1, v => BitVec.ofNat 8 (v / 256 ^ n) :: beBytes n v

/-- `zeros(n)` (R9). -/
def zeros (n : Nat) : List Byte := List.replicate n 0

/-- `x xor repeat(b, len(x))` (R9). -/
def xorByte (s : List Byte) (b : Byte) : List Byte := s.map (fun x => x ^^^ b)

/-- `s[a ..< b]` (R9). -/
def slice (s : List Byte) (a b : Nat) : List Byte := (s.drop a).take (b - a)

/-- `ROTL_n(x)` for 0 < n < 32 (R10). -/
def rotl (n : Nat) (x : Word) : Word := (x <<< n) ||| (x >>> (32 - n))

/-- Byte `j` of a buffer of words: `W(j div 4)[31 - 8*(j mod 4) : 24 - 8*(j mod 4)]` (R75). A word beyond
the buffer would give 0 (log 13). -/
def bufByte (ws : List Word) (j : Nat) : Byte :=
  (ws.getD (j / 4) 0).extractLsb' (24 - 8 * (j % 4)) 8

/-- Bytes 0 to n-1 of a buffer (R75, R103). -/
def bufBytes (ws : List Word) (n : Nat) : List Byte := (List.range n).map (bufByte ws)

/-- Word `k` of a byte sequence packed big-endian, `int_BE(s[4k ..< 4k+4])` (R75, spec/42_otp_generate.md R180). -/
def packWord (s : List Byte) (k : Nat) : Word := BitVec.ofNat 32 (intBE (slice s (4 * k) (4 * k + 4)))

/-- The value of a register pair, `HI * 2^32 + LO` (R76). -/
def pairValue (hi lo : Word) : Nat := 2 ^ 32 * hi.toNat + lo.toNat

/-- The LO half of a 64-bit value (R76). -/
def loHalf (n : Nat) : Word := BitVec.ofNat 32 (n % 2 ^ 32)

/-- The HI half of a 64-bit value (R76). -/
def hiHalf (n : Nat) : Word := BitVec.ofNat 32 (n / 2 ^ 32)

/-- A flag as bit `n` of a word. -/
def flagBit (b : Bool) (n : Nat) : Word := if b then 1#32 <<< n else 0#32

end Sys2Proof.Machine
end

