-- ==== Sys2Proof/Machine/State.lean ====
section
/-! DEFINITION. The state of the OTPE: `Arch` is the architectural state of spec/10_state.md R20, and nothing else;
`State` adds the model's own record of the outside world. -/

namespace Sys2Proof.Machine

/-- The error codes of STATUS.ERR_CODE (spec/60_exceptions.md R270); codes 6 to 15 are never produced
(log 17). -/
inductive ErrCode where
  | none
  | illegalCmd
  | cfgDigits
  | cfgTimestep
  | cfgKeylen
  | inputLength
  deriving DecidableEq, Repr

/-- The engine state (spec/10_state.md R44). -/
inductive Fsm where
  | idle
  | busy (cmd : Word)
  deriving DecidableEq, Repr

/-- The architectural state (spec/10_state.md R20): the stored fields of the registers of R23 and `fsm`. ID, VERSION,
CTRL.SRST, CMD and the reserved offsets hold no storage; STATUS.BUSY and STATUS.ERR are derived. -/
structure Arch where
  /-- CTRL[0] IRQ_EN (R24) -/
  irqEn      : Bool
  /-- STATUS[1] DONE (R25) -/
  done       : Bool
  /-- STATUS[3] IGNORED (R25) -/
  ignored    : Bool
  /-- STATUS[11:8] ERR_CODE (R25, R270) -/
  errCode    : ErrCode
  /-- CFG[3:0] DIGITS, stored as written (R27) -/
  digits     : BitVec 4
  /-- CFG[15:8] LOOKAHEAD (R27) -/
  lookahead  : Byte
  /-- TIME_STEP (R28) -/
  timeStep   : Word
  /-- KEY_LEN[7:0] (R29) -/
  keyLen     : Byte
  /-- COUNTER_LO, COUNTER_HI (R30) -/
  counterLo  : Word
  counterHi  : Word
  /-- TIME_LO, TIME_HI (R31) -/
  timeLo     : Word
  timeHi     : Word
  /-- CAND_LEN[7:0] (R32) -/
  candLen    : Byte
  /-- DIN_LEN[7:0] (R33) -/
  dinLen     : Byte
  /-- CAND0 to CAND3 (R34) -/
  cand       : Vector Word 4
  /-- DIN0 to DIN4 (R35) -/
  din        : Vector Word 5
  /-- KEY0 to KEY15 (R36) -/
  key        : Vector Word 16
  /-- TRUNC_VAL[30:0] (R37); bit 31 always reads 0 (log 18) -/
  truncVal   : BitVec 31
  /-- OTP_BIN[29:0] (R38); bits 31 and 30 always read 0 (log 18) -/
  otpBin     : BitVec 30
  /-- OTP_LEN[3:0] (R39; log 18) -/
  otpLen     : BitVec 4
  /-- OTP_ASCII0 to OTP_ASCII2 (R40) -/
  otpAscii   : Vector Word 3
  /-- TCTR_LO, TCTR_HI (R41) -/
  tctrLo     : Word
  tctrHi     : Word
  /-- VRES[0] VALID, VRES[15:8] MATCH_IDX, VRES[23:16] NTRIED (R42) -/
  valid      : Bool
  matchIdx   : Byte
  ntried     : Byte
  /-- MATCH_CTR_LO, MATCH_CTR_HI (R42) -/
  matchCtrLo : Word
  matchCtrHi : Word
  /-- the engine state (R44) -/
  fsm        : Fsm
  deriving DecidableEq, Repr

/-- The state after reset (spec/10_state.md R49): every value is the spec's. -/
def Arch.reset : Arch where
  irqEn      := false
  done       := false
  ignored    := false
  errCode    := .none
  digits     := 6
  lookahead  := 3
  timeStep   := 30
  keyLen     := 0
  counterLo  := 0
  counterHi  := 0
  timeLo     := 0
  timeHi     := 0
  candLen    := 0
  dinLen     := 0
  cand       := Vector.replicate 4 0
  din        := Vector.replicate 5 0
  key        := Vector.replicate 16 0
  truncVal   := 0
  otpBin     := 0
  otpLen     := 0
  otpAscii   := Vector.replicate 3 0
  tctrLo     := 0
  tctrHi     := 0
  valid      := false
  matchIdx   := 0
  ntried     := 0
  matchCtrLo := 0
  matchCtrHi := 0
  fsm        := .idle

/-- The response to one bus transaction (spec/20_memory.md R72, R73): `error` is BusError, and then `data` is 0. -/
structure BusResponse where
  error : Bool
  data  : Word
  deriving DecidableEq, Repr

/-- The machine's state: the architectural state, and the model's own fields. -/
structure State where
  /-- the architectural state (R20) -/
  arch     : Arch
  /-- the outside world's future actions, in the order in which they are delivered (R81; log 1) -/
  pending  : List HostAction
  /-- the response to the last transaction (R72, R73; log 5) -/
  resp     : Option BusResponse
  /-- how many pending actions still go before the completion of the command in flight (R248, R305; log 2) -/
  latency  : Nat
  /-- how many commands were accepted: the counter that CMD_LATENCY is applied to (log 2) -/
  accepted : Nat
  deriving DecidableEq, Repr

/-- Right after reset (R49). The model's own fields hold values of the model's choice (log 11). -/
def State.reset : State where
  arch     := Arch.reset
  pending  := []
  resp     := none
  latency  := 0
  accepted := 0

/-- Which agent moves next (spec/00_scope.md R4, spec/20_memory.md R81). -/
inductive Move where
  /-- the engine completes the command in flight (R241) -/
  | engine (cmd : Word)
  /-- the outside world's next action is taken -/
  | host (action : HostAction) (rest : List HostAction)
  /-- no agent can move -/
  | waiting
  deriving DecidableEq, Repr

/-- Why a step stops. -/
inductive Fault where
  /-- Raised by `step` alone, when the engine is Idle and no host action is pending: no agent can move
  (spec/93_implementation_defined.md "The model has no next state only where the environment does not act"; log 4).
  SAFE: the hardware waits there and changes nothing. -/
  | awaitingHost
  deriving DecidableEq, Repr

/-- Why an instruction has no meaning. -/
inductive Refusal where
  /-- An instruction that this model does not reach; raised by no arm of `exec` (every command is modelled). SAFE. -/
  | notModelled (mnemonic : String)
  deriving DecidableEq, Repr

end Sys2Proof.Machine
end

