-- ==== Sys2Proof/Machine/Flags.lean ====
section
/-! DEFINITION. The flags: STATUS and VRES as they are read, the W1C write of STATUS, and the interrupt output
(spec/10_state.md R25, R42, R46, R48; spec/60_exceptions.md R270, R277). -/

namespace Sys2Proof.Machine

/-- The value of an error code (spec/60_exceptions.md R270). -/
def ErrCode.toNat : ErrCode → Nat
  | .none => 0
  | .illegalCmd => 1
  | .cfgDigits => 2
  | .cfgTimestep => 3
  | .cfgKeylen => 4
  | .inputLength => 5

/-- STATUS.BUSY: 1 exactly when `fsm = Busy(_)` (R25). -/
def Arch.BUSY (a : Arch) : Bool :=
  match a.fsm with
  | .idle => false
  | .busy _ => true

/-- STATUS.ERR: always `ERR_CODE != 0` (R25). -/
def Arch.ERR (a : Arch) : Bool := a.errCode != .none

/-- The interrupt output `irq = CTRL.IRQ_EN & STATUS.DONE` (R46). -/
def Arch.irq (a : Arch) : Bool := a.irqEn && a.done

/-- CTRL as it is read (R24): IRQ_EN in bit 0; SRST and the reserved bits read 0. -/
def Arch.ctrlWord (a : Arch) : Word := flagBit a.irqEn 0

/-- STATUS as it is read (R25). -/
def Arch.statusWord (a : Arch) : Word :=
  flagBit a.BUSY 0 ||| flagBit a.done 1 ||| flagBit a.ERR 2 ||| flagBit a.ignored 3
    ||| BitVec.ofNat 32 (2 ^ 8 * a.errCode.toNat)

/-- A write to STATUS (R25): DONE and IGNORED are W1C; no other bit has an effect. -/
def Arch.writeStatus (a : Arch) (v : Word) : Arch :=
  { a with done := a.done && !v.getLsbD 1, ignored := a.ignored && !v.getLsbD 3 }

/-- VRES as it is read (R42). -/
def Arch.vresWord (a : Arch) : Word :=
  flagBit a.valid 0 ||| (a.matchIdx.setWidth 32 <<< 8) ||| (a.ntried.setWidth 32 <<< 16)

end Sys2Proof.Machine
end

