-- ==== Sys2Proof/Machine/Operands.lean ====
section
/-! DEFINITION. The operand views of spec/30_encoding.md R103. Every operand is a register; there are no immediates. -/

namespace Sys2Proof.Machine

/-- `DIGITS`, 0 to 15 as stored (R103). -/
def Arch.DIGITS (a : Arch) : Nat := a.digits.toNat

/-- `LOOKAHEAD`, 0 to 255 (R103). -/
def Arch.LOOKAHEAD (a : Arch) : Nat := a.lookahead.toNat

/-- `TS` (R103). -/
def Arch.TS (a : Arch) : Nat := a.timeStep.toNat

/-- `COUNTER64` (R103). -/
def Arch.COUNTER64 (a : Arch) : Nat := pairValue a.counterHi a.counterLo

/-- `TIME64` (R103). -/
def Arch.TIME64 (a : Arch) : Nat := pairValue a.timeHi a.timeLo

/-- `KEYLEN`, 0 to 255 (R103). -/
def Arch.KEYLEN (a : Arch) : Nat := a.keyLen.toNat

/-- `K`, the first KEYLEN bytes of the key buffer (R103); used only when KEYLEN is at most 64
(log 13). -/
def Arch.K (a : Arch) : List Byte := bufBytes a.key.toList a.KEYLEN

/-- `CANDLEN`, 0 to 255 (R103). -/
def Arch.CANDLEN (a : Arch) : Nat := a.candLen.toNat

/-- `CandBuf[j]` (R103). -/
def Arch.candByte (a : Arch) (j : Nat) : Byte := bufByte a.cand.toList j

/-- `DINLEN`, 0 to 255 (R103). -/
def Arch.DINLEN (a : Arch) : Nat := a.dinLen.toNat

/-- `Din`, all 20 bytes of the digest-input buffer (R103). -/
def Arch.Din (a : Arch) : List Byte := bufBytes a.din.toList 20

/-- `TCTR` as one number (spec/10_state.md R41). -/
def Arch.TCTR (a : Arch) : Nat := pairValue a.tctrHi a.tctrLo

/-- `MATCH_CTR` as one number (spec/10_state.md R42). -/
def Arch.MATCHCTR (a : Arch) : Nat := pairValue a.matchCtrHi a.matchCtrLo

/-- The 12 bytes of the OTP_ASCII buffer (spec/10_state.md R40). -/
def Arch.otpAsciiBytes (a : Arch) : List Byte := bufBytes a.otpAscii.toList 12

end Sys2Proof.Machine
end

