-- ==== Sys2Proof/Machine/Ops.lean ====
section
/-! DEFINITION. The named operations over the register file: the register map, reads and writes of it, the command
lifecycle (acceptance, completion, error completion), reset, and the actions of the outside world
(spec/10_state.md R23 to R43, spec/20_memory.md R71 to R79, spec/44_control.md R240 to R243, spec/70 R300, R301). -/

namespace Sys2Proof.Machine

/-! ### The register map (R23) -/

/-- The offset of a named register (R23). -/
def regOffset : Reg → Nat
  | .id => 0x000
  | .version => 0x004
  | .ctrl => 0x008
  | .status => 0x00C
  | .cmd => 0x010
  | .cfg => 0x014
  | .timeStep => 0x018
  | .keyLen => 0x01C
  | .counterLo => 0x020
  | .counterHi => 0x024
  | .timeLo => 0x028
  | .timeHi => 0x02C
  | .candLen => 0x030
  | .dinLen => 0x034
  | .cand k => 0x040 + 4 * k.val
  | .din k => 0x050 + 4 * k.val
  | .key k => 0x080 + 4 * k.val
  | .truncVal => 0x100
  | .otpBin => 0x104
  | .otpLen => 0x108
  | .otpAscii k => 0x110 + 4 * k.val
  | .tctrLo => 0x120
  | .tctrHi => 0x124
  | .vres => 0x128
  | .matchCtrLo => 0x130
  | .matchCtrHi => 0x134

/-- Every named register, in the order of R23. -/
def allRegs : List Reg :=
  [.id, .version, .ctrl, .status, .cmd, .cfg, .timeStep, .keyLen, .counterLo, .counterHi, .timeLo, .timeHi, .candLen,
    .dinLen]
    ++ (List.finRange 4).map Reg.cand ++ (List.finRange 5).map Reg.din ++ (List.finRange 16).map Reg.key
    ++ [.truncVal, .otpBin, .otpLen] ++ (List.finRange 3).map Reg.otpAscii
    ++ [.tctrLo, .tctrHi, .vres, .matchCtrLo, .matchCtrHi]

/-- The register at an offset; none at a reserved offset (R43). -/
def regAt (off : Nat) : Option Reg := allRegs.find? (fun r => regOffset r == off)

/-! ### Reading -/

/-- The value a named register reads as (R21 to R42). ID and VERSION are hard-wired; CMD and KEY are write-only and
read 0; reserved bits read 0. -/
def Arch.readReg (a : Arch) : Reg → Word
  | .id => 0x4F545045
  | .version => 0x00010000
  | .ctrl => a.ctrlWord
  | .status => a.statusWord
  | .cmd => 0
  | .cfg => a.digits.setWidth 32 ||| (a.lookahead.setWidth 32 <<< 8)
  | .timeStep => a.timeStep
  | .keyLen => a.keyLen.setWidth 32
  | .counterLo => a.counterLo
  | .counterHi => a.counterHi
  | .timeLo => a.timeLo
  | .timeHi => a.timeHi
  | .candLen => a.candLen.setWidth 32
  | .dinLen => a.dinLen.setWidth 32
  | .cand k => a.cand[k]
  | .din k => a.din[k]
  | .key _ => 0
  | .truncVal => a.truncVal.setWidth 32
  | .otpBin => a.otpBin.setWidth 32
  | .otpLen => a.otpLen.setWidth 32
  | .otpAscii k => a.otpAscii[k]
  | .tctrLo => a.tctrLo
  | .tctrHi => a.tctrHi
  | .vres => a.vresWord
  | .matchCtrLo => a.matchCtrLo
  | .matchCtrHi => a.matchCtrHi

/-- The value at an aligned offset; a reserved offset reads 0 (R43). -/
def Arch.read (a : Arch) (off : Nat) : Word :=
  match regAt off with
  | some r => a.readReg r
  | none => 0

/-! ### Writing -/

/-- A write to a named operand register while the engine is Idle, under its field rules (R27 to R36). Read-only
registers ignore it. CTRL, STATUS and CMD are not stored here: `State.busWrite` handles them. -/
def Arch.store (a : Arch) (v : Word) : Reg → Arch
  | .cfg => { a with digits := v.extractLsb' 0 4, lookahead := v.extractLsb' 8 8 }
  | .timeStep => { a with timeStep := v }
  | .keyLen => { a with keyLen := v.extractLsb' 0 8 }
  | .counterLo => { a with counterLo := v }
  | .counterHi => { a with counterHi := v }
  | .timeLo => { a with timeLo := v }
  | .timeHi => { a with timeHi := v }
  | .candLen => { a with candLen := v.extractLsb' 0 8 }
  | .dinLen => { a with dinLen := v.extractLsb' 0 8 }
  | .cand k => { a with cand := a.cand.set k v }
  | .din k => { a with din := a.din.set k v }
  | .key k => { a with key := a.key.set k v }
  | .id | .version | .ctrl | .status | .cmd => a
  | .truncVal | .otpBin | .otpLen | .otpAscii _ | .tctrLo | .tctrHi | .vres | .matchCtrLo | .matchCtrHi => a

/-! ### The command lifecycle -/

/-- What acceptance writes (R240): the word is latched whole and DONE is cleared. -/
def Arch.latch (a : Arch) (w : Word) : Arch := { a with fsm := .busy w, done := false }

/-- Acceptance (R240): the word is latched whole, legal or not, and DONE is cleared. The model draws the free value
CMD_LATENCY for this command (log 2). -/
def State.accept (s : State) (w : Word) : State :=
  { s with
    arch := s.arch.latch w
    latency := Config.cmdLatency s.accepted
    accepted := s.accepted + 1 }

/-- What every completion writes (R241): ERR_CODE, DONE and `fsm`. -/
def Arch.finish (a : Arch) (code : ErrCode) : Arch := { a with errCode := code, done := true, fsm := .idle }

/-- The completion (R241) and the error completion (R242) as ONE operation: the result of a command is either the
registers with its result writes applied, or an error code, and then no write is applied. This is where the OTPE's
errors end; it has no trap to take (spec/60_exceptions.md R279). -/
def State.complete (s : State) : Except ErrCode Arch → State
  | .ok a => { s with arch := a.finish .none }
  | .error code => { s with arch := s.arch.finish code }

/-- The completion of an illegal word (R101, R274). -/
def State.completeIllegal (s : State) : State := s.complete (.error .illegalCmd)

/-! ### Reset -/

/-- The effect of a reset from either source (R300, R301): every register and field at its reset value, `fsm = Idle`,
the command in flight discarded, in one step (log 22). The outside world's own record stays (log 10). -/
def State.resetArch (s : State) : State := { s with arch := Arch.reset }

/-! ### Bus transactions -/

/-- A transaction the slave supports (R73): 4 bytes wide, on a multiple of 4 (log 21). -/
def busSupported (off size : Nat) : Bool := size == 4 && off % 4 == 0

/-- The BusError response (R73): read data 0. -/
def busError : BusResponse := { error := true, data := 0 }

/-- BusRead (R72, R73): it changes no state (R78). -/
def Arch.busRead (a : Arch) (off size : Nat) : BusResponse :=
  if busSupported off size then { error := false, data := a.read off } else busError

/-- CTRL.IRQ_EN is written (R24). -/
def Arch.setIrqEn (a : Arch) (b : Bool) : Arch := { a with irqEn := b }

/-- A write was dropped: STATUS.IGNORED is set (R25, R243). -/
def Arch.setIgnored (a : Arch) : Arch := { a with ignored := true }

/-- A write to CTRL (R24, R246): accepted in every state. SRST resets the block, and then IRQ_EN does not survive. -/
def State.writeCtrl (s : State) (v : Word) : State :=
  if v.getLsbD 1 then s.resetArch else { s with arch := s.arch.setIrqEn (v.getLsbD 0) }

/-- BusWrite at an aligned offset (R72, R79, R240, R243). CTRL and STATUS are always taken. While Busy every other
write is dropped and sets IGNORED. While Idle a write to CMD starts a command, a write to a reserved offset is
ignored, and any other is stored under its field rules. -/
def State.busWrite (s : State) (off : Nat) (v : Word) : State :=
  match regAt off with
  | some .ctrl => s.writeCtrl v
  | some .status => { s with arch := s.arch.writeStatus v }
  | target =>
    if s.arch.BUSY then { s with arch := s.arch.setIgnored }
    else match target with
      | some .cmd => s.accept v
      | some r => { s with arch := s.arch.store v r }
      | none => s

/-- The offset of a system address in the window, if it lies in it (R71). -/
def windowOffset (addr : Nat) : Option Nat :=
  if Config.otpeBase ≤ addr ∧ addr < Config.otpeBase + 4096 then some (addr - Config.otpeBase) else none

/-- The response of a transaction is given to the bus (R72, R73). -/
def State.respond (s : State) (r : BusResponse) : State := { s with resp := some r }

/-- A read transaction at an offset. -/
def State.hostRead (s : State) (off size : Nat) : State := s.respond (s.arch.busRead off size)

/-- A write transaction at an offset; an unsupported one gets BusError and changes no state at all (R73). -/
def State.hostWrite (s : State) (off size : Nat) (v : Word) : State :=
  if busSupported off size then (s.busWrite off v).respond { error := false, data := 0 } else s.respond busError

/-! ### The outside world -/

/-- The next pending action is taken off the list; one action less goes before the completion in flight. -/
def State.advance (s : State) (rest : List HostAction) : State :=
  { s with pending := rest, latency := s.latency - 1 }

/-- One action of the outside world (R4, R81). A transaction outside the window does not reach the OTPE (R71; log 6).
A POLL is one read, and it stays the next action until its field has the value (R107; log 19). -/
def State.hostStep (s : State) (action : HostAction) (rest : List HostAction) : State :=
  let t := s.advance rest
  match action with
  | .resetInput => t.resetArch
  | .read addr size =>
    match windowOffset addr with
    | some off => t.hostRead off size
    | none => t
  | .write addr size v =>
    match windowOffset addr with
    | some off => t.hostWrite off size v
    | none => t
  | .poll addr mask value =>
    match windowOffset addr with
    | some off =>
      let u := t.hostRead off 4
      if (s.arch.busRead off 4).data &&& mask = value then u else { u with pending := action :: rest }
    | none => t

/-- Which agent moves (R4, R81, R241, R305). While Idle only the outside world can. While Busy the completion stays
enabled; `latency` pending actions go before it, fewer if fewer are pending, so it always comes (R248). -/
def State.nextMove (s : State) : Move :=
  match s.arch.fsm, s.pending with
  | .idle, [] => .waiting
  | .idle, action :: rest => .host action rest
  | .busy w, [] => .engine w
  | .busy w, action :: rest => if s.latency = 0 then .engine w else .host action rest

end Sys2Proof.Machine
end

