-- ==== Sys2Proof/Machine/Control.lean ====
section
/-! DEFINITION. The control commands NOP and ZEROIZE (spec/44_control.md R244, R245). -/

namespace Sys2Proof.Machine

/-- NOP (R244): a success completion with no write. -/
def execNop (s : State) : Host.Outcome State Fault Refusal := .next (s.complete (.ok s.arch))

/-- What ZEROIZE clears (R245): key, candidate and digest input with their lengths, and every result register. -/
def Arch.zeroized (a : Arch) : Arch :=
  { a with
    key := Vector.replicate 16 0
    cand := Vector.replicate 4 0
    din := Vector.replicate 5 0
    keyLen := 0
    candLen := 0
    dinLen := 0
    truncVal := 0
    otpBin := 0
    otpLen := 0
    otpAscii := Vector.replicate 3 0
    tctrLo := 0
    tctrHi := 0
    valid := false
    matchIdx := 0
    ntried := 0
    matchCtrLo := 0
    matchCtrHi := 0 }

/-- ZEROIZE (R245). -/
def execZeroize (s : State) : Host.Outcome State Fault Refusal := .next (s.complete (.ok s.arch.zeroized))

end Sys2Proof.Machine
end

