-- ==== Sys2Proof/Machine/Sha1.lean ====
section
/-! DEFINITION. SHA-1 (spec/40_hmac_sha1.md R130 to R135), pure functions with no state (spec/10_state.md R45). The
rules are the spec's own general knowledge, checked by the vectors of spec/95_test_vectors.md (log 15). -/

namespace Sys2Proof.Machine

/-- Message padding (R130): `M || 0x80 || zeros(k) || BE_8(8n)` with the least `k` such that
`(n + 1 + k) mod 64 = 56`. -/
def sha1Pad (m : List Byte) : List Byte :=
  let k := (64 + 55 - m.length % 64) % 64
  m ++ [0x80] ++ zeros k ++ beBytes 8 (8 * m.length)

/-- The five 32-bit words of the hash value (R131), also the working variables of a compression (R134). -/
structure HashWords where
  a : Word
  b : Word
  c : Word
  d : Word
  e : Word
  deriving DecidableEq, Repr

/-- The initial hash value (R131). -/
def sha1Init : HashWords :=
  { a := 0x67452301, b := 0xEFCDAB89, c := 0x98BADCFE, d := 0x10325476, e := 0xC3D2E1F0 }

/-- The schedule's next `n` words (R132), where `ws` holds the words so far, the newest first: the word `t-3` stands at
place 2, `t-8` at 7, `t-14` at 13 and `t-16` at 15. -/
def scheduleExtend : Nat → List Word → List Word
  | 0, ws => ws
  | n + 1, ws =>
    scheduleExtend n (rotl 1 (ws.getD 2 0 ^^^ ws.getD 7 0 ^^^ ws.getD 13 0 ^^^ ws.getD 15 0) :: ws)

/-- The message schedule `W[0..79]` of a 64-byte block (R132). -/
def sha1Schedule (block : List Byte) : List Word :=
  (scheduleExtend 64 ((List.range 16).map (packWord block)).reverse).reverse

/-- The round function `f_t(b, c, d)` (R133). -/
def sha1F (t : Nat) (b c d : Word) : Word :=
  if t < 20 then (b &&& c) ^^^ (~~~b &&& d)
  else if t < 40 then b ^^^ c ^^^ d
  else if t < 60 then (b &&& c) ^^^ (b &&& d) ^^^ (c &&& d)
  else b ^^^ c ^^^ d

/-- The round constant `K_t` (R133). -/
def sha1K (t : Nat) : Word :=
  if t < 20 then 0x5A827999
  else if t < 40 then 0x6ED9EBA1
  else if t < 60 then 0x8F1BBCDC
  else 0xCA62C1D6

/-- One round (R134). -/
def sha1Round (t : Nat) (w : Word) (h : HashWords) : HashWords :=
  { a := rotl 5 h.a + sha1F t h.b h.c h.d + h.e + sha1K t + w
    b := h.a
    c := rotl 30 h.b
    d := h.c
    e := h.d }

/-- The rounds from round `t` on, one for each schedule word (R134). -/
def sha1Rounds : Nat → List Word → HashWords → HashWords
  | _, [], h => h
  | t, w :: ws, h => sha1Rounds (t + 1) ws (sha1Round t w h)

/-- The compression of one block (R134). -/
def sha1Compress (h : HashWords) (block : List Byte) : HashWords :=
  let r := sha1Rounds 0 (sha1Schedule block) h
  { a := h.a + r.a, b := h.b + r.b, c := h.c + r.c, d := h.d + r.d, e := h.e + r.e }

/-- The first `n` 64-byte blocks of a padded message, in order (R130, R134). -/
def sha1Blocks : Nat → List Byte → HashWords → HashWords
  | 0, _, h => h
  | n + 1, m, h => sha1Blocks n (m.drop 64) (sha1Compress h (m.take 64))

/-- `BE_4(H0) || ... || BE_4(H4)` (R135). -/
def HashWords.digest (h : HashWords) : List Byte :=
  beBytes 4 h.a.toNat ++ beBytes 4 h.b.toNat ++ beBytes 4 h.c.toNat ++ beBytes 4 h.d.toNat ++ beBytes 4 h.e.toNat

/-- `SHA1(M)` (R130 to R135). -/
def sha1 (m : List Byte) : List Byte :=
  let p := sha1Pad m
  (sha1Blocks (p.length / 64) p sha1Init).digest

end Sys2Proof.Machine
end

