-- ==== Sys2Proof/Machine/Hmac.lean ====
section
/-! DEFINITION. HMAC-SHA1, the counter encoding and the HOTP digest (spec/40_hmac_sha1.md R136 to R139). -/

namespace Sys2Proof.Machine

/-- Key preparation `K0` (R136). The OTPE never applies the second case: KEY_LEN > 64 is CFG_KEYLEN
(log 16). -/
def hmacKey (k : List Byte) : List Byte :=
  if k.length ≤ 64 then k ++ zeros (64 - k.length) else sha1 k ++ zeros 44

/-- `HMAC_SHA1(K, text)` (R137), with ipad bytes 0x36 and opad bytes 0x5C. -/
def hmacSha1 (k text : List Byte) : List Byte :=
  let k0 := hmacKey k
  sha1 (xorByte k0 0x5C ++ sha1 (xorByte k0 0x36 ++ text))

/-- `CtrBytes(c) = BE_8(c)` (R138). -/
def ctrBytes (c : Nat) : List Byte := beBytes 8 c

/-- `HDigest(K, c)` (R139). -/
def hDigest (k : List Byte) (c : Nat) : List Byte := hmacSha1 k (ctrBytes c)

end Sys2Proof.Machine
end

