-- ==== Sys2Proof/Machine/Truncation.lean ====
section
/-! DEFINITION. Dynamic truncation, modulo and decimal formatting, and the command TRUNC (spec/41_truncation.md). -/

namespace Sys2Proof.Machine

/-- Dynamic truncation `DT(d)` (R160): the low nibble of byte 19 selects four bytes, and the top bit is masked off. -/
def dynTrunc (d : List Byte) : Word :=
  let offset := (d.getD 19 0 &&& 0x0F).toNat
  BitVec.ofNat 32 (intBE (slice d offset (offset + 4))) &&& 0x7FFFFFFF

/-- `OtpNum(t, n) = t mod 10^n` (R162). -/
def otpNum (t n : Nat) : Nat := t % 10 ^ n

/-- `Dec(v, n)` (R163): exactly `n` ASCII digits, most significant first, zero-padded on the left. -/
def decimal (v n : Nat) : List Byte :=
  (List.range n).map (fun j => BitVec.ofNat 8 (0x30 + v / 10 ^ (n - 1 - j) % 10))

/-- `TruncOf(K, c)` (R165). -/
def truncOf (k : List Byte) (c : Nat) : Word := dynTrunc (hDigest k c)

/-- `OtpStr(K, c, n)` (R164). -/
def otpStr (k : List Byte) (c n : Nat) : List Byte := decimal (otpNum (truncOf k c).toNat n) n

/-- The result of TRUNC (R166): INPUT_LENGTH unless DIN_LEN is 20; else TRUNC_VAL alone is written. -/
def Arch.truncResult (a : Arch) : Except ErrCode Arch :=
  if a.DINLEN ≠ 20 then .error .inputLength
  else .ok { a with truncVal := (dynTrunc a.Din).setWidth 31 }

/-- TRUNC (R166). -/
def execTrunc (s : State) : Host.Outcome State Fault Refusal := .next (s.complete s.arch.truncResult)

end Sys2Proof.Machine
end

