-- ==== Sys2Proof/Machine/Generate.lean ====
section
/-! DEFINITION. The counter generator and the generation commands HOTP_GEN and TOTP_GEN (spec/42_otp_generate.md), with
the configuration checks they share with validation (spec/60_exceptions.md R271, R276). -/

namespace Sys2Proof.Machine

/-- DIGITS in 1 to 9 (R271). -/
def Arch.digitsLegal (a : Arch) : Bool := decide (1 ≤ a.DIGITS) && decide (a.DIGITS ≤ 9)

/-- The checks of the HOTP commands in priority order (R276): CFG_DIGITS, then CFG_KEYLEN. -/
def Arch.hotpError (a : Arch) : Option ErrCode :=
  if !a.digitsLegal then some .cfgDigits
  else if 64 < a.KEYLEN then some .cfgKeylen
  else none

/-- The checks of the TOTP commands in priority order (R276): CFG_DIGITS, then CFG_TIMESTEP, then CFG_KEYLEN. -/
def Arch.totpError (a : Arch) : Option ErrCode :=
  if !a.digitsLegal then some .cfgDigits
  else if a.TS = 0 then some .cfgTimestep
  else if 64 < a.KEYLEN then some .cfgKeylen
  else none

/-- A command's result: the first error found, else its result writes. -/
def resultUnless (e : Option ErrCode) (a : Arch) : Except ErrCode Arch :=
  match e with
  | some code => .error code
  | none => .ok a

/-- `WriteOTP(K, c, n)` (R180). The digest is written nowhere (spec/10_state.md R45). -/
def Arch.writeOtp (a : Arch) (k : List Byte) (c n : Nat) : Arch :=
  let t := truncOf k c
  let v := otpNum t.toNat n
  let s := decimal v n ++ zeros (12 - n)
  { a with
    truncVal := t.setWidth 31
    otpBin := BitVec.ofNat 30 v
    otpLen := BitVec.ofNat 4 n
    otpAscii := #v[packWord s 0, packWord s 1, packWord s 2] }

/-- `TotpCtr(T, TS) = T div TS` for TS > 0 (R182). -/
def totpCtr (t ts : Nat) : Nat := t / ts

/-- The TOTP counter is written to TCTR (R183, R215). -/
def Arch.writeTctr (a : Arch) (c : Nat) : Arch := { a with tctrLo := loHalf c, tctrHi := hiHalf c }

/-- The result of HOTP_GEN (R181). -/
def Arch.hotpGenResult (a : Arch) : Except ErrCode Arch :=
  resultUnless a.hotpError (a.writeOtp a.K a.COUNTER64 a.DIGITS)

/-- The result of TOTP_GEN (R183). -/
def Arch.totpGenResult (a : Arch) : Except ErrCode Arch :=
  let c := totpCtr a.TIME64 a.TS
  resultUnless a.totpError ((a.writeTctr c).writeOtp a.K c a.DIGITS)

/-- HOTP_GEN (R181). -/
def execHotpGen (s : State) : Host.Outcome State Fault Refusal := .next (s.complete s.arch.hotpGenResult)

/-- TOTP_GEN (R183). -/
def execTotpGen (s : State) : Host.Outcome State Fault Refusal := .next (s.complete s.arch.totpGenResult)

end Sys2Proof.Machine
end

