-- ==== Sys2Proof/Machine/Validate.lean ====
section
/-! DEFINITION. The comparator, the two windows and the validation commands HOTP_VAL and TOTP_VAL
(spec/43_validate.md). -/

namespace Sys2Proof.Machine

/-- `CandEq(e, n)` (R210): the candidate's length is `n` and its first `n` bytes are those of `e`. Every byte position
is compared (R211; log 14). -/
def Arch.candEq (a : Arch) (e : List Byte) (n : Nat) : Bool :=
  a.CANDLEN == n && (List.range n).all (fun j => a.candByte j == e.getD j 0)

/-- The HOTP window `HWin(C, L)` (R212): positions with their counters, in increasing order, none past 2^64 - 1. -/
def hotpWindow (c l : Nat) : List (Nat × Nat) :=
  ((List.range l).filter (fun i => decide (c + i ≤ 2 ^ 64 - 1))).map (fun i => (i, c + i))

/-- The TOTP window `TWin(T, TS)` (R214): the current, the previous and the next step, in this order; a step whose time
would leave 0 to 2^64 - 1 is left out. -/
def totpWindow (t ts : Nat) : List (Nat × Nat) :=
  let c0 := totpCtr t ts
  [(0, c0)] ++ (if ts ≤ t then [(1, c0 - 1)] else []) ++ (if t + ts ≤ 2 ^ 64 - 1 then [(2, c0 + 1)] else [])

/-- The running result of the window loop (R213, R215): `found`, `idx` and `mc`. -/
structure Match where
  found : Bool
  idx   : Nat
  ctr   : Nat
  deriving DecidableEq, Repr

/-- One position of the window loop (R213, R215): the first match is kept. -/
def Arch.tryPosition (a : Arch) (m : Match) (p : Nat × Nat) : Match :=
  if a.candEq (otpStr a.K p.2 a.DIGITS) a.DIGITS && !m.found then { found := true, idx := p.1, ctr := p.2 } else m

/-- The window loop over every position, in order (R211, R213, R215). -/
def Arch.scan (a : Arch) (w : List (Nat × Nat)) : Match :=
  w.foldl a.tryPosition { found := false, idx := 0, ctr := 0 }

/-- VRES and MATCH_CTR after a window was evaluated (R213, R215). -/
def Arch.writeVres (a : Arch) (w : List (Nat × Nat)) (m : Match) : Arch :=
  { a with
    valid := m.found
    matchIdx := BitVec.ofNat 8 m.idx
    ntried := BitVec.ofNat 8 w.length
    matchCtrLo := loHalf m.ctr
    matchCtrHi := hiHalf m.ctr }

/-- The result of HOTP_VAL (R213). -/
def Arch.hotpValResult (a : Arch) : Except ErrCode Arch :=
  let w := hotpWindow a.COUNTER64 a.LOOKAHEAD
  resultUnless a.hotpError (a.writeVres w (a.scan w))

/-- The result of TOTP_VAL (R215). -/
def Arch.totpValResult (a : Arch) : Except ErrCode Arch :=
  let w := totpWindow a.TIME64 a.TS
  resultUnless a.totpError ((a.writeTctr (totpCtr a.TIME64 a.TS)).writeVres w (a.scan w))

/-- HOTP_VAL (R213). -/
def execHotpVal (s : State) : Host.Outcome State Fault Refusal := .next (s.complete s.arch.hotpValResult)

/-- TOTP_VAL (R215). -/
def execTotpVal (s : State) : Host.Outcome State Fault Refusal := .next (s.complete s.arch.totpValResult)

end Sys2Proof.Machine
end

