-- ==== Sys2Proof/Machine/Dispatch.lean ====
section
/-! DEFINITION. The dispatcher `Exec` on decoded commands (spec/44_control.md R247): one arm per command. -/

namespace Sys2Proof.Machine

/-- The completion of a command (R241, R247; log 8). -/
def exec (i : Instr) (s : State) : Host.Outcome State Fault Refusal :=
  match i with
  | .nop => Sys2Proof.Machine.execNop s
  | .trunc => Sys2Proof.Machine.execTrunc s
  | .hotpGen => Sys2Proof.Machine.execHotpGen s
  | .totpGen => Sys2Proof.Machine.execTotpGen s
  | .hotpVal => Sys2Proof.Machine.execHotpVal s
  | .totpVal => Sys2Proof.Machine.execTotpVal s
  | .zeroize => Sys2Proof.Machine.execZeroize s

end Sys2Proof.Machine
end

