-- ==== Sys2Proof/Machine/Step.lean ====
section
/-! DEFINITION. One step of the OTPE: one completion, one bus transaction or one reset (spec/00_scope.md R4,
spec/20_memory.md R81). -/

namespace Sys2Proof.Machine

/-- The completion step `Exec(cmd)` on a latched word (spec/44_control.md R241, R247): decoding happens here (R101). -/
def completion (w : Word) (s : State) : Host.Outcome State Fault Refusal :=
  match decode w with
  | .ok i => exec i s
  | .error _ => .next s.completeIllegal

/-- One step: the agent whose turn it is moves. -/
def step (s : State) : Host.Outcome State Fault Refusal :=
  match s.nextMove with
  | .engine w => completion w s
  | .host action rest => .next (s.hostStep action rest)
  | .waiting => .fault .awaitingHost

/-- The state in which the table's word `w` has just been accepted (R240) and its completion comes next: what a write
of it to CMD leaves when the engine was Idle, with no pending action before the completion (log 7). -/
def State.withFetchWord (s : State) (nbits w : Nat) : State :=
  { s with
    arch := s.arch.latch (BitVec.ofNat 32 (w % 2 ^ nbits))
    latency := 0 }

end Sys2Proof.Machine
end

