-- ==== Sys2Proof/Machine/HostSeq.lean ====
section
/-! DEFINITION. The host-sequence notation, the spec's assembly language (spec/30_encoding.md R107, R108): what each
line expands to, and reading a line of text (log 20). -/

namespace Sys2Proof.Machine

/-! ### Expansion into host actions (R107) -/

/-- `WR`: one 32-bit write at an offset of the window. -/
def writeAt (off : Nat) (v : Word) : HostAction := .write (Config.otpeBase + off) 4 v

/-- `RD`: one 32-bit read at an offset of the window. -/
def readAt (off : Nat) : HostAction := .read (Config.otpeBase + off) 4

/-- `POLL`: the same read repeated until the field [hi:lo] has the value. -/
def pollAt (off hi lo v : Nat) : HostAction :=
  .poll (Config.otpeBase + off) (BitVec.ofNat 32 ((2 ^ (hi + 1 - lo) - 1) * 2 ^ lo)) (BitVec.ofNat 32 (v * 2 ^ lo))

/-- Writes of a byte sequence into the words of a buffer of `n` words, `int_BE(pad4(s)[4k ..< 4k+4])` for each word that
holds a byte of it. -/
def bufferWrites (reg : Nat → Nat) (n : Nat) (s : List Byte) : List HostAction :=
  (List.range (min n ((s.length + 3) / 4))).map (fun k => writeAt (reg k) (packWord (s ++ zeros 3) k))

/-- The transactions one line expands to (R107). The length registers take the length's low 32 bits. -/
def expandOp : HostOp → List HostAction
  | .wr off v => [writeAt off v]
  | .rd off _ => [readAt off]
  | .poll off hi lo v => [pollAt off hi lo v]
  | .cmd i => [writeAt (regOffset .cmd) (encode i)]
  | .wait => [pollAt (regOffset .status) 0 0 0]
  | .ack => [writeAt (regOffset .status) 0x00000002]
  | .loadKey s =>
    bufferWrites (fun k => regOffset (.key 0) + 4 * k) 16 s
      ++ [writeAt (regOffset .keyLen) (BitVec.ofNat 32 s.length)]
  | .loadCand s =>
    bufferWrites (fun k => regOffset (.cand 0) + 4 * k) 4 s
      ++ [writeAt (regOffset .candLen) (BitVec.ofNat 32 s.length)]
  | .loadDin s =>
    bufferWrites (fun k => regOffset (.din 0) + 4 * k) 5 s ++ [writeAt (regOffset .dinLen) 20]
  | .setCtr n => [writeAt (regOffset .counterLo) (loHalf n), writeAt (regOffset .counterHi) (hiHalf n)]
  | .setTime n => [writeAt (regOffset .timeLo) (loHalf n), writeAt (regOffset .timeHi) (hiHalf n)]
  | .setCfg digits lookahead => [writeAt (regOffset .cfg) (BitVec.ofNat 32 (lookahead * 256 + digits))]

/-- The encoding of a program: its list of expanded transactions (R107). -/
def expandProgram (p : List HostOp) : List HostAction := p.flatMap expandOp

/-- A host program is given to the machine: its transactions come after those already pending (log 7). -/
def State.loadProgram (s : State) (p : List HostOp) : State := { s with pending := s.pending ++ expandProgram p }

/-- What a program expects of the response to its last transaction: `RD <reg> -> <expected32>` expects the value
(R107); the other lines expect nothing. -/
def State.meetsExpectation (s : State) : HostOp → Bool
  | .rd _ (some v) => s.resp == some { error := false, data := v }
  | .rd _ none | .wr _ _ | .poll _ _ _ _ | .cmd _ | .wait | .ack => true
  | .loadKey _ | .loadCand _ | .loadDin _ | .setCtr _ | .setTime _ | .setCfg _ _ => true

/-! ### Names (R108) -/

/-- The decimal digits of a register's index (below 100). -/
def indexChars (k : Nat) : List Char :=
  let digit := fun (d : Nat) => Char.ofNat (48 + d)
  if k < 10 then [digit k] else [digit (k / 10), digit (k % 10)]

/-- The name of a register (spec/10_state.md R23). -/
def regName : Reg → List Char
  | .id => "ID".toList
  | .version => "VERSION".toList
  | .ctrl => "CTRL".toList
  | .status => "STATUS".toList
  | .cmd => "CMD".toList
  | .cfg => "CFG".toList
  | .timeStep => "TIME_STEP".toList
  | .keyLen => "KEY_LEN".toList
  | .counterLo => "COUNTER_LO".toList
  | .counterHi => "COUNTER_HI".toList
  | .timeLo => "TIME_LO".toList
  | .timeHi => "TIME_HI".toList
  | .candLen => "CAND_LEN".toList
  | .dinLen => "DIN_LEN".toList
  | .cand k => "CAND".toList ++ indexChars k.val
  | .din k => "DIN".toList ++ indexChars k.val
  | .key k => "KEY".toList ++ indexChars k.val
  | .truncVal => "TRUNC_VAL".toList
  | .otpBin => "OTP_BIN".toList
  | .otpLen => "OTP_LEN".toList
  | .otpAscii k => "OTP_ASCII".toList ++ indexChars k.val
  | .tctrLo => "TCTR_LO".toList
  | .tctrHi => "TCTR_HI".toList
  | .vres => "VRES".toList
  | .matchCtrLo => "MATCH_CTR_LO".toList
  | .matchCtrHi => "MATCH_CTR_HI".toList

/-- The register of a name. -/
def regNamed (name : List Char) : Option Reg := allRegs.find? (fun r => regName r == name)

/-- The named fields of a register with their highest and lowest bit (spec/10_state.md R24 to R42). DESIGN CHOICE: the
fields MAJOR and MINOR of VERSION (R22) are accepted too, which goes beyond R108 (log 27). -/
def regFields : Reg → List (List Char × Nat × Nat)
  | .version => [("MAJOR".toList, 31, 16), ("MINOR".toList, 15, 0)]
  | .ctrl => [("IRQ_EN".toList, 0, 0), ("SRST".toList, 1, 1)]
  | .status =>
    [("BUSY".toList, 0, 0), ("DONE".toList, 1, 1), ("ERR".toList, 2, 2), ("IGNORED".toList, 3, 3),
      ("ERR_CODE".toList, 11, 8)]
  | .cmd => [("OPCODE".toList, 7, 0), ("RSVD".toList, 31, 8)]
  | .cfg => [("DIGITS".toList, 3, 0), ("LOOKAHEAD".toList, 15, 8)]
  | .vres => [("VALID".toList, 0, 0), ("MATCH_IDX".toList, 15, 8), ("NTRIED".toList, 23, 16)]
  | .id | .timeStep | .keyLen | .counterLo | .counterHi | .timeLo | .timeHi | .candLen | .dinLen => []
  | .cand _ | .din _ | .key _ | .truncVal | .otpBin | .otpLen | .otpAscii _ => []
  | .tctrLo | .tctrHi | .matchCtrLo | .matchCtrHi => []

/-- The mnemonic of a command (R102). -/
def mnemonicChars : Instr → List Char
  | .nop => "NOP".toList
  | .trunc => "TRUNC".toList
  | .hotpGen => "HOTP_GEN".toList
  | .totpGen => "TOTP_GEN".toList
  | .hotpVal => "HOTP_VAL".toList
  | .totpVal => "TOTP_VAL".toList
  | .zeroize => "ZEROIZE".toList

/-- The command of a mnemonic. -/
def instrNamed (name : List Char) : Option Instr :=
  [Instr.nop, .trunc, .hotpGen, .totpGen, .hotpVal, .totpVal, .zeroize].find? (fun i => mnemonicChars i == name)

/-! ### Values and strings (R108) -/

/-- The value of a digit character, in bases up to 16. -/
def digitValue (c : Char) : Option Nat :=
  let n := c.toNat
  if 48 ≤ n ∧ n ≤ 57 then some (n - 48)
  else if 65 ≤ n ∧ n ≤ 70 then some (n - 55)
  else if 97 ≤ n ∧ n ≤ 102 then some (n - 87)
  else none

/-- The number of a nonempty digit sequence in a base, continuing from `acc`. -/
def digitsFrom (base acc : Nat) : List Char → Option Nat
  | [] => some acc
  | c :: cs =>
    match digitValue c with
    | some d => if d < base then digitsFrom base (acc * base + d) cs else none
    | none => none

/-- A value: a decimal number, or hexadecimal with a `0x` prefix (R108). -/
def parseValue : List Char → Option Nat
  | '0' :: 'x' :: c :: cs => digitsFrom 16 0 (c :: cs)
  | c :: cs => digitsFrom 10 0 (c :: cs)
  | [] => none

/-- A 32-bit value. -/
def parseWord (cs : List Char) : Option Word :=
  (parseValue cs).bind (fun n => if n < 2 ^ 32 then some (BitVec.ofNat 32 n) else none)

/-- The ASCII bytes of a string's characters (spec/00_scope.md R12). DESIGN CHOICE: a character outside ASCII stands for
one byte, its code point modulo 256 (log 24). -/
def asciiBytes (cs : List Char) : List Byte := cs.map (fun c => BitVec.ofNat 8 c.toNat)

/-- The bytes of an even number of hexadecimal digits. -/
def hexBytes : List Char → Option (List Byte)
  | [] => some []
  | [_] => none
  | a :: b :: cs =>
    match digitValue a, digitValue b, hexBytes cs with
    | some x, some y, some bs => some (BitVec.ofNat 8 (x * 16 + y) :: bs)
    | _, _, _ => none

/-- A byte-string operand: a quoted string (its token begins with the quote), or `0x` and hexadecimal digits. DESIGN
CHOICE: both forms are accepted for LOADKEY, LOADCAND and LOADDIN alike (log 26). -/
def parseBytes : List Char → Option (List Byte)
  | '"' :: cs => some (asciiBytes cs)
  | '0' :: 'x' :: cs => hexBytes cs
  | _ => none

/-! ### Lines of text -/

/-- The state of the reader: the tokens read so far and the current one, both reversed, and whether it stands inside
a quoted string. -/
structure Lexer where
  tokens : List (List Char)
  cur    : List Char
  quoted : Bool
  deriving DecidableEq, Repr

/-- The current token ends. -/
def Lexer.flush (l : Lexer) : Lexer :=
  match l.cur with
  | [] => l
  | _ :: _ => { l with tokens := l.cur.reverse :: l.tokens, cur := [] }

/-- One character: spaces and commas separate tokens, except inside double quotes; a string's token keeps its opening
quote as a mark. DESIGN CHOICE: `;` is an ordinary character, so it starts no comment (log 25). -/
def Lexer.push (l : Lexer) (c : Char) : Lexer :=
  if l.quoted then
    if c = '"' then { l.flush with quoted := false } else { l with cur := c :: l.cur }
  else if c = ' ' ∨ c = ',' then l.flush
  else if c = '"' then { l.flush with cur := ['"'], quoted := true }
  else { l with cur := c :: l.cur }

/-- The tokens of a line. DESIGN CHOICE: a string whose closing quote is missing ends with the line (log 24). -/
def tokenize (line : List Char) : List (List Char) :=
  ((line.foldl Lexer.push { tokens := [], cur := [], quoted := false }).flush).tokens.reverse

/-- A register operand: a register's name, or an offset as a number. -/
def parseOffset (cs : List Char) : Option Nat :=
  match regNamed cs with
  | some r => some (regOffset r)
  | none => parseValue cs

/-- A field operand `<reg>.<field>`: the register's offset with the field's highest and lowest bit. -/
def parseField (cs : List Char) : Option (Nat × Nat × Nat) :=
  (regNamed (cs.takeWhile (fun c => c != '.'))).bind fun r =>
    ((regFields r).find? (fun f => f.1 == (cs.dropWhile (fun c => c != '.')).drop 1)).map fun f =>
      (regOffset r, f.2.1, f.2.2)

/-- A line of the notation from its tokens (R107). DESIGN CHOICE: no token may follow the operands, so a line with text
after `;` is refused (log 25); LOADCAND takes hexadecimal digits and LOADDIN a quoted string as well (log 26). -/
def parseTokens : List (List Char) → Option HostOp
  | [m] =>
    if m = "WAIT".toList then some .wait
    else if m = "ACK".toList then some .ack
    else none
  | [m, x] =>
    if m = "RD".toList then (parseOffset x).map (fun off => .rd off none)
    else if m = "CMD".toList then (instrNamed x).map .cmd
    else if m = "LOADKEY".toList then (parseBytes x).map .loadKey
    else if m = "LOADCAND".toList then (parseBytes x).map .loadCand
    else if m = "LOADDIN".toList then (parseBytes x).map .loadDin
    else if m = "SETCTR".toList then (parseValue x).map .setCtr
    else if m = "SETTIME".toList then (parseValue x).map .setTime
    else none
  | [m, x, y] =>
    if m = "WR".toList then (parseOffset x).bind (fun off => (parseWord y).map (.wr off))
    else if m = "SETCFG".toList then (parseValue x).bind (fun d => (parseValue y).map (.setCfg d))
    else none
  | [m, x, sep, y] =>
    if m = "RD".toList ∧ sep = "->".toList then
      (parseOffset x).bind (fun off => (parseWord y).map (fun v => .rd off (some v)))
    else if m = "POLL".toList ∧ sep = "==".toList then
      (parseField x).bind (fun f => (parseValue y).map (.poll f.1 f.2.1 f.2.2))
    else none
  | _ => none

/-- A line of text, accepted only when it is well formed. -/
def parseLine (line : String) : Option HostOp :=
  (parseTokens (tokenize line.toList)).filter HostOp.wellFormed

end Sys2Proof.Machine
end

