-- ==== Sys2Proof/Safety.lean ====
section
/-! DEFINITION. What the claims about the OTPE speak of: the invariant of the architectural state, the operand and the
result registers as groups, and running the machine. -/

namespace Sys2Proof.Machine

/-- What holds of the registers after every step (spec/10_state.md R25, R38 to R42; spec/44_control.md R240).
`busy_not_done`: acceptance clears DONE and only a completion sets it. `otpLen_le`, `otpBin_lt`, `ascii_eq`: the OTP
number has at most OTP_LEN digits, OTP_ASCII holds its decimal string and zeros. `noMatch_*`: MATCH_IDX and MATCH_CTR
are 0 when VALID is 0. `valid_tried`: a match needs a position that was evaluated. -/
structure Arch.Inv (a : Arch) : Prop where
  busy_not_done  : a.BUSY = true → a.done = false
  otpLen_le      : a.otpLen.toNat ≤ 9
  otpBin_lt      : a.otpBin.toNat < 10 ^ a.otpLen.toNat
  ascii_eq       : a.otpAsciiBytes = decimal a.otpBin.toNat a.otpLen.toNat ++ zeros (12 - a.otpLen.toNat)
  noMatch_idx    : a.valid = false → a.matchIdx = 0
  noMatch_ctr    : a.valid = false → a.MATCHCTR = 0
  valid_tried    : a.valid = true → 0 < a.ntried.toNat

/-- The operand registers (spec/10_state.md R27 to R36). -/
structure Operands where
  digits    : BitVec 4
  lookahead : Byte
  timeStep  : Word
  keyLen    : Byte
  counterLo : Word
  counterHi : Word
  timeLo    : Word
  timeHi    : Word
  candLen   : Byte
  dinLen    : Byte
  cand      : Vector Word 4
  din       : Vector Word 5
  key       : Vector Word 16
  deriving DecidableEq, Repr

/-- The operand registers of a state. -/
def Arch.operands (a : Arch) : Operands :=
  { digits := a.digits, lookahead := a.lookahead, timeStep := a.timeStep, keyLen := a.keyLen,
    counterLo := a.counterLo, counterHi := a.counterHi, timeLo := a.timeLo, timeHi := a.timeHi,
    candLen := a.candLen, dinLen := a.dinLen, cand := a.cand, din := a.din, key := a.key }

/-- The result registers of the generator and TRUNC (spec/10_state.md R37 to R40). -/
structure OtpResults where
  truncVal : BitVec 31
  otpBin   : BitVec 30
  otpLen   : BitVec 4
  otpAscii : Vector Word 3
  deriving DecidableEq, Repr

/-- The OTP result registers of a state. -/
def Arch.otpResults (a : Arch) : OtpResults :=
  { truncVal := a.truncVal, otpBin := a.otpBin, otpLen := a.otpLen, otpAscii := a.otpAscii }

/-- The result registers of the comparator (spec/10_state.md R42). -/
structure MatchResults where
  valid      : Bool
  matchIdx   : Byte
  ntried     : Byte
  matchCtrLo : Word
  matchCtrHi : Word
  deriving DecidableEq, Repr

/-- The validation result registers of a state. -/
def Arch.matchResults (a : Arch) : MatchResults :=
  { valid := a.valid, matchIdx := a.matchIdx, ntried := a.ntried, matchCtrLo := a.matchCtrLo,
    matchCtrHi := a.matchCtrHi }

/-- `Exec` as a pure function of a command and the registers (spec/44_control.md R247): the registers with the
command's result writes applied, or the error code of its error completion. -/
def Arch.result (a : Arch) : Instr → Except ErrCode Arch
  | .nop => .ok a
  | .trunc => a.truncResult
  | .hotpGen => a.hotpGenResult
  | .totpGen => a.totpGenResult
  | .hotpVal => a.hotpValResult
  | .totpVal => a.totpValResult
  | .zeroize => .ok a.zeroized

/-- The offsets of the registers a command may write (the "Registers written" and "Flags written" lines of
spec/41_truncation.md R166, spec/42_otp_generate.md R181, R183, spec/43_validate.md R213, R215, spec/44_control.md
R244, R245); every command writes STATUS, at 0x00C. -/
def writtenOffsets : Instr → List Nat
  | .nop => [0x00C]
  | .trunc => [0x00C, 0x100]
  | .hotpGen => [0x00C, 0x100, 0x104, 0x108, 0x110, 0x114, 0x118]
  | .totpGen => [0x00C, 0x100, 0x104, 0x108, 0x110, 0x114, 0x118, 0x120, 0x124]
  | .hotpVal => [0x00C, 0x128, 0x130, 0x134]
  | .totpVal => [0x00C, 0x120, 0x124, 0x128, 0x130, 0x134]
  | .zeroize =>
    [0x00C, 0x01C, 0x030, 0x034, 0x040, 0x044, 0x048, 0x04C, 0x050, 0x054, 0x058, 0x05C, 0x060, 0x100, 0x104, 0x108,
      0x110, 0x114, 0x118, 0x120, 0x124, 0x128, 0x130, 0x134]

/-- The result registers TCTR (spec/10_state.md R41), OTP and VRES (R37 to R42) of two states agree. -/
def Arch.sameResults (a b : Arch) : Prop :=
  a.otpResults = b.otpResults ∧ a.matchResults = b.matchResults ∧ a.TCTR = b.TCTR

/-- The next step is a host or reset step, if one is pending (spec/20_memory.md R81, spec/70 R305). -/
abbrev State.hostTurn (s : State) : Prop := s.arch.fsm = .idle ∨ s.latency ≠ 0

/-- The digest in DIN0 to DIN4 as one 160-bit number, digest byte 0 the most significant (spec/10_state.md R35). -/
def Arch.dinNumber (a : Arch) : Nat :=
  2 ^ 128 * a.din[0].toNat + 2 ^ 96 * a.din[1].toNat + 2 ^ 64 * a.din[2].toNat + 2 ^ 32 * a.din[3].toNat
    + a.din[4].toNat

/-- DIGITS and KEY_LEN are legal for the HOTP commands (spec/60_exceptions.md R271). -/
abbrev Arch.hotpLegal (a : Arch) : Prop := 1 ≤ a.DIGITS ∧ a.DIGITS ≤ 9 ∧ a.KEYLEN ≤ 64

/-- DIGITS, TIME_STEP and KEY_LEN are legal for the TOTP commands (spec/60_exceptions.md R271). -/
abbrev Arch.totpLegal (a : Arch) : Prop := a.hotpLegal ∧ 0 < a.TS

/-- What an error completion with a code leaves (spec/44_control.md R242): ERR_CODE, DONE and fsm, nothing else. -/
def State.erred (s : State) (code : ErrCode) : State :=
  { s with arch := { s.arch with errCode := code, done := true, fsm := .idle } }

/-- The candidate equals the OTP of counter `c` as a byte string (spec/43_validate.md R210). -/
abbrev Arch.matchesAt (a : Arch) (c : Nat) : Prop :=
  a.CANDLEN = a.DIGITS ∧ ∀ j < a.DIGITS, a.candByte j = (otpStr a.K c a.DIGITS).getD j 0

/-- The offsets the register map leaves reserved (spec/10_state.md R43). -/
def reservedOffset (off : Nat) : Prop :=
  off = 0x038 ∨ off = 0x03C ∨ (0x064 ≤ off ∧ off ≤ 0x07C) ∨ (0x0C0 ≤ off ∧ off ≤ 0x0FC) ∨ off = 0x10C ∨ off = 0x11C
    ∨ off = 0x12C ∨ 0x138 ≤ off

/-- The readable operand registers with the bits that are stored (spec/10_state.md R27 to R35). -/
def readBackMasks : List (Nat × Word) :=
  [(0x014, 0x0000FF0F), (0x018, 0xFFFFFFFF), (0x01C, 0x000000FF), (0x020, 0xFFFFFFFF), (0x024, 0xFFFFFFFF),
    (0x028, 0xFFFFFFFF), (0x02C, 0xFFFFFFFF), (0x030, 0x000000FF), (0x034, 0x000000FF),
    (0x040, 0xFFFFFFFF), (0x044, 0xFFFFFFFF), (0x048, 0xFFFFFFFF), (0x04C, 0xFFFFFFFF),
    (0x050, 0xFFFFFFFF), (0x054, 0xFFFFFFFF), (0x058, 0xFFFFFFFF), (0x05C, 0xFFFFFFFF), (0x060, 0xFFFFFFFF)]

/-- The operand registers, KEY0 to KEY15 among them (spec/10_state.md R27 to R36). -/
def operandOffsets : List Nat :=
  [0x014, 0x018, 0x01C, 0x020, 0x024, 0x028, 0x02C, 0x030, 0x034, 0x040, 0x044, 0x048, 0x04C, 0x050, 0x054, 0x058, 0x05C,
    0x060, 0x080, 0x084, 0x088, 0x08C, 0x090, 0x094, 0x098, 0x09C, 0x0A0, 0x0A4, 0x0A8, 0x0AC, 0x0B0, 0x0B4, 0x0B8, 0x0BC]

/-- The operand views of spec/30_encoding.md R103 as the commands use them: numbers, and the three byte buffers. -/
structure OperandViews where
  digits    : Nat
  lookahead : Nat
  ts        : Nat
  counter   : Nat
  time      : Nat
  keyLen    : Nat
  candLen   : Nat
  dinLen    : Nat
  cand      : List Byte
  din       : List Byte
  key       : List Byte
  deriving DecidableEq, Repr

/-- The operand views of a state; the key buffer is all 64 bytes. -/
def Arch.views (a : Arch) : OperandViews :=
  { digits := a.DIGITS, lookahead := a.LOOKAHEAD, ts := a.TS, counter := a.COUNTER64, time := a.TIME64,
    keyLen := a.KEYLEN, candLen := a.CANDLEN, dinLen := a.DINLEN, cand := (List.range 16).map a.candByte, din := a.Din,
    key := bufBytes a.key.toList 64 }

/-- A byte buffer after its word `k` was written: bytes 4k to 4k+3 are the word, big-endian (spec/20_memory.md R75). -/
def setWordBytes (bytes : List Byte) (k : Nat) (v : Word) : List Byte :=
  bytes.take (4 * k) ++ beBytes 4 v.toNat ++ bytes.drop (4 * k + 4)

/-- The views after a write of `v` to an operand register, as spec/10_state.md R27 to R36 and spec/30_encoding.md R103
give them for its offset. -/
def OperandViews.afterWrite (w : OperandViews) (off : Nat) (v : Word) : OperandViews :=
  if off = 0x014 then { w with digits := v.toNat % 2 ^ 4, lookahead := v.toNat / 2 ^ 8 % 2 ^ 8 }
  else if off = 0x018 then { w with ts := v.toNat }
  else if off = 0x01C then { w with keyLen := v.toNat % 2 ^ 8 }
  else if off = 0x020 then { w with counter := 2 ^ 32 * (w.counter / 2 ^ 32) + v.toNat }
  else if off = 0x024 then { w with counter := 2 ^ 32 * v.toNat + w.counter % 2 ^ 32 }
  else if off = 0x028 then { w with time := 2 ^ 32 * (w.time / 2 ^ 32) + v.toNat }
  else if off = 0x02C then { w with time := 2 ^ 32 * v.toNat + w.time % 2 ^ 32 }
  else if off = 0x030 then { w with candLen := v.toNat % 2 ^ 8 }
  else if off = 0x034 then { w with dinLen := v.toNat % 2 ^ 8 }
  else if off < 0x050 then { w with cand := setWordBytes w.cand ((off - 0x040) / 4) v }
  else if off < 0x080 then { w with din := setWordBytes w.din ((off - 0x050) / 4) v }
  else { w with key := setWordBytes w.key ((off - 0x080) / 4) v }

/-- The read-only registers (spec/10_state.md R23). -/
def readOnlyOffsets : List Nat :=
  [0x000, 0x004, 0x100, 0x104, 0x108, 0x110, 0x114, 0x118, 0x120, 0x124, 0x128, 0x130, 0x134]

/-- No reset input is pending and no pending write reaches CTRL with SRST set: nothing pending can discard the
command in flight (spec/70_reset_and_hazards.md R300). -/
def State.noResetPending (s : State) : Prop :=
  ∀ action ∈ s.pending, action ≠ .resetInput ∧
    ∀ addr size v, action = .write addr size v → windowOffset addr = some (regOffset .ctrl) → v.getLsbD 1 = false

/-- A run of `k` steps that never stops and ends in `t` (Host.Core.run). -/
def runsTo (k : Nat) (s t : State) : Prop := Sys2Proof.core.run k s = .next t

end Sys2Proof.Machine
end

