-- ==== Sys2Proof/Certificates/Slice0/Obligations.lean ====
section
/-! DEFINITION. The statements about the OTPE. Each docstring names the rule of spec/ it formalises. -/

open Sys2Proof Sys2Proof.Machine

/-! ### Encoding -/

/-- The seven command words of R102 written out bit by bit decode to their commands, and a word with a reserved bit or
an undefined opcode does not decode. -/
def Obligations.CommandWordsDecode : Prop :=
  decode 0b00000000000000000000000000000000#32 = .ok .nop
  ∧ decode 0b00000000000000000000000000000001#32 = .ok .trunc
  ∧ decode 0b00000000000000000000000000000010#32 = .ok .hotpGen
  ∧ decode 0b00000000000000000000000000000011#32 = .ok .totpGen
  ∧ decode 0b00000000000000000000000000000100#32 = .ok .hotpVal
  ∧ decode 0b00000000000000000000000000000101#32 = .ok .totpVal
  ∧ decode 0b00000000000000000000000000001111#32 = .ok .zeroize
  ∧ decode 0b00000000000000000000000100000000#32 = .error .reservedBitsSet
  ∧ decode 0b00000000000000000000000000000110#32 = .error .undefinedOpcode

/-- Decode and encode agree in both directions: a word decodes to a command exactly when it is that command's encoding,
so every well-formed command comes back from its word and no bit of a word is dropped (R100 to R102, R105). -/
def Obligations.WordDecodesExactlyToItsCommand : Prop :=
  ∀ (w : Word) (i : Instr), decode w = .ok i ↔ i.wellFormed = true ∧ w = encode i

/-- R274: any latched word with cmd[31:8] ≠ 0, or with cmd[7:0] outside the seven opcodes, completes with ILLEGAL_CMD;
nothing but STATUS and fsm changes. -/
def Obligations.IllegalWordCompletesWithIllegalCmd : Prop :=
  ∀ (s : State) (w : Word), s.arch.fsm = .busy w → (s.pending = [] ∨ s.latency = 0) →
    (w.toNat / 2 ^ 8 ≠ 0 ∨ w.toNat % 2 ^ 8 ∉ [0x00, 0x01, 0x02, 0x03, 0x04, 0x05, 0x0F]) →
    step s = .next { s with arch := { s.arch with errCode := .illegalCmd, done := true, fsm := .idle } }

/-! ### Reset -/

/-- R49, R301: the reset input and a write of 1 to CTRL.SRST leave the same state: every register reads its reset value,
the key is 0, fsm is Idle and irq is 0. That a reset keeps the actions still pending (t.pending = rest) is no rule of the
spec but the model's choice (log 10). -/
def Obligations.BothResetSourcesGiveResetValues : Prop :=
  ∀ (s : State) (action : HostAction) (rest : List HostAction), s.pending = action :: rest → s.hostTurn →
    (action = .resetInput ∨ ∃ v : Word, v.getLsbD 1 = true ∧ action = .write (Config.otpeBase + 0x008) 4 v) →
    ∃ t, step s = .next t ∧ t.pending = rest ∧ t.arch = State.reset.arch ∧ t.arch.fsm = .idle ∧ t.arch.irq = false
      ∧ (∀ k : Fin 16, t.arch.key[k] = 0)
      ∧ ∀ off, t.arch.read off =
          if off = 0x000 then 0x4F545045 else if off = 0x004 then 0x00010000
          else if off = 0x014 then 0x00000306 else if off = 0x018 then 0x0000001E else 0

/-- The state after reset meets the invariant. -/
def Obligations.ResetMeetsInvariant : Prop := State.reset.arch.Inv

/-! ### The lifecycle -/

/-- R240: a write to CMD while Idle latches the word whole, legal or not, and clears DONE; BUSY then reads 1 and irq is
0; every other register keeps its value. The latency drawn is the free value of the model's log entry 2. -/
def Obligations.CommandWriteWhileIdleIsAccepted : Prop :=
  ∀ (s : State) (v : Word) (rest : List HostAction), s.arch.fsm = .idle →
    s.pending = .write (Config.otpeBase + 0x010) 4 v :: rest →
    ∃ t, step s = .next t ∧ t.arch = { s.arch with fsm := .busy v, done := false }
      ∧ (t.arch.read 0x00C).getLsbD 0 = true ∧ t.arch.irq = false ∧ t.pending = rest
      ∧ t.latency = Config.cmdLatency s.accepted

/-- When the engine's turn has come and the latched word decodes to a command, step is exec of that command at that
state; and withFetchWord places exactly the command to run next. -/
def Obligations.StepRunsTheDecodedCommand : Prop :=
  (∀ (s : State) (w : Word) (i : Instr), s.arch.fsm = .busy w → (s.pending = [] ∨ s.latency = 0) → decode w = .ok i →
    step s = exec i s)
  ∧ ∀ (s : State) (i : Instr),
    step (s.withFetchWord 32 (encode i).toNat) = exec i (s.withFetchWord 32 (encode i).toNat)

/-- When it is not the engine's turn, step takes the first pending action of the outside world. -/
def Obligations.StepTakesTheNextHostAction : Prop :=
  ∀ (s : State) (action : HostAction) (rest : List HostAction), s.pending = action :: rest → s.hostTurn →
    step s = .next (s.hostStep action rest)

/-- A step stops only with awaitingHost, and exactly when the engine is Idle and nothing is pending; it never refuses
(93 "The model has no next state only where the environment does not act"; the stop is log entry 4). -/
def Obligations.StepStopsExactlyWhenNobodyActs : Prop :=
  (∀ s : State, step s = .fault .awaitingHost ↔ s.arch.fsm = .idle ∧ s.pending = [])
  ∧ (∀ (s : State) (r : Refusal), step s ≠ .refused r)

/-- R247: Exec is total. Every word, legal or not, completes from every register state: DONE is set, the engine is Idle,
ERR_CODE is one of the codes, and the outside world's record is untouched. -/
def Obligations.EveryWordCompletes : Prop :=
  ∀ (w : Word) (s : State), ∃ t, completion w s = .next t ∧ t.arch.done = true ∧ t.arch.fsm = .idle
    ∧ t.arch.errCode.toNat ≤ 5 ∧ t.pending = s.pending ∧ t.resp = s.resp ∧ t.accepted = s.accepted

/-- R242: an error completion writes ERR_CODE, DONE and fsm and nothing else: no result and no operand register. -/
def Obligations.ErrorCompletionWritesOnlyStatus : Prop :=
  ∀ (w : Word) (s t : State), completion w s = .next t → t.arch.errCode ≠ .none →
    t = { s with arch := { s.arch with errCode := t.arch.errCode, done := true, fsm := .idle } }

/-- R248: from every Busy state the engine is Idle after at most latency + 1 steps, whatever is pending. -/
def Obligations.BusyEngineBecomesIdle : Prop :=
  ∀ (s : State) (w : Word), s.arch.fsm = .busy w →
    ∃ k t, k ≤ s.latency + 1 ∧ runsTo k s t ∧ t.arch.fsm = .idle

/-- R83, R241, R243: unless a reset comes first, an accepted command completes after at most latency more host steps,
and whatever the hosts did meanwhile it completes with exactly the registers it would have had at acceptance; only
CTRL.IRQ_EN and STATUS.IGNORED may differ. -/
def Obligations.CommandCompletesOnOperandsAtAcceptance : Prop :=
  ∀ (s : State) (w : Word), s.arch.fsm = .busy w → s.noResetPending →
    ∃ k t r, k ≤ s.latency ∧ runsTo (k + 1) s t ∧ completion w s = .next r ∧ t.arch.fsm = .idle ∧ t.arch.done = true
      ∧ t.arch = { r.arch with irqEn := t.arch.irqEn, ignored := t.arch.ignored }

/-- R243, R83: a step from Busy to Busy keeps the latched word, every operand and result register and ERR_CODE. -/
def Obligations.BusyStepsFreezeOperandsAndResults : Prop :=
  ∀ (s t : State) (w : Word), s.arch.fsm = .busy w → step s = .next t → t.arch.fsm ≠ .idle →
    t.arch.fsm = .busy w ∧ t.arch.operands = s.arch.operands ∧ t.arch.sameResults s.arch
      ∧ t.arch.errCode = s.arch.errCode

/-- R305: a write sent right after the command may land before or after the completion, and both orders are admitted:
the first leaves COUNTER_LO and sets IGNORED, the second takes the write; the results are the same. -/
def Obligations.WriteRacingACompletionHasBothOutcomes : Prop :=
  ∀ (s : State) (v : Word), s.arch.fsm = .busy (encode .hotpGen) → s.arch.ignored = false →
    s.pending = [.write (Config.otpeBase + 0x020) 4 v] →
    ∃ t u, runsTo 2 { s with latency := 1 } t ∧ runsTo 2 { s with latency := 0 } u
      ∧ t.arch.ignored = true ∧ t.arch.counterLo = s.arch.counterLo
      ∧ u.arch.ignored = false ∧ u.arch.counterLo = v
      ∧ t.arch.otpResults = u.arch.otpResults ∧ t.arch.errCode = u.arch.errCode
      ∧ t.arch.fsm = .idle ∧ u.arch.fsm = .idle

/-! ### The invariant -/

/-- Every step keeps the invariant: DONE is 0 while Busy, OTP_BIN and OTP_ASCII agree with OTP_LEN, MATCH_IDX and
MATCH_CTR are 0 without a match, and a match needs an evaluated position. -/
def Obligations.StepKeepsInvariant : Prop :=
  ∀ s t : State, s.arch.Inv → step s = .next t → t.arch.Inv

/-! ### The control commands -/

/-- R244: NOP writes ERR_CODE = 0 and DONE, and nothing else. -/
def Obligations.NopWritesOnlyStatus : Prop :=
  encode .nop = 0x00000000#32
  ∧ ∀ s : State, exec .nop s = .next { s with arch := { s.arch with errCode := .none, done := true, fsm := .idle } }

/-- R245: ZEROIZE, the word 0x0000000F, clears the key, candidate and digest input with their lengths and every result register, and writes
nothing else but STATUS. -/
def Obligations.ZeroizeClearsSecretsInputsAndResults : Prop :=
  encode .zeroize = 0x0000000F#32
  ∧ ∀ s : State, exec .zeroize s = .next { s with arch := { s.arch with
    key := Vector.replicate 16 0, cand := Vector.replicate 4 0, din := Vector.replicate 5 0
    keyLen := 0, candLen := 0, dinLen := 0
    truncVal := 0, otpBin := 0, otpLen := 0, otpAscii := Vector.replicate 3 0
    tctrLo := 0, tctrHi := 0, valid := false, matchIdx := 0, ntried := 0, matchCtrLo := 0, matchCtrHi := 0
    errCode := .none, done := true, fsm := .idle } }

/-! ### Dynamic truncation and formatting -/

/-- R166: TRUNC is the word 0x00000001. With DIN_LEN = 20 it writes TRUNC_VAL and STATUS only; the value is the 31-bit number at byte offset
`DIN4 mod 16` of the 20-byte digest. With any other DIN_LEN it completes with INPUT_LENGTH and writes no result. -/
def Obligations.TruncExtractsThirtyOneBits : Prop :=
  encode .trunc = 0x00000001#32
  ∧ ∀ s : State,
    (s.arch.dinLen = 20 →
      exec .trunc s = .next { s with arch := { s.arch with
        truncVal := BitVec.ofNat 31 (s.arch.dinNumber / 2 ^ (128 - 8 * (s.arch.din[4].toNat % 16)))
        errCode := .none, done := true, fsm := .idle } })
    ∧ (s.arch.dinLen ≠ 20 → exec .trunc s = .next (s.erred .inputLength))

/-- R161: the truncated value of any 20-byte input is at most 2^31 - 1, and both extremes are reached. -/
def Obligations.TruncatedValueRange : Prop :=
  (∀ d : List Byte, d.length = 20 → (dynTrunc d).toNat ≤ 2 ^ 31 - 1)
  ∧ (dynTrunc (List.replicate 20 0x00)).toNat = 0 ∧ (dynTrunc (List.replicate 20 0xFF)).toNat = 2147483647

/-- R163: `Dec(v, n)` has exactly n characters, character j is the ASCII digit of v div 10^(n-1-j), and reading the
string as a decimal number gives v back. -/
def Obligations.DecimalStringIsPaddedAndReadsBack : Prop :=
  (∀ v n : Nat, 1 ≤ n → n ≤ 9 → v < 10 ^ n →
    (decimal v n).length = n
    ∧ (∀ j < n, ((decimal v n).getD j 0).toNat = 0x30 + v / 10 ^ (n - 1 - j) % 10)
    ∧ (decimal v n).foldl (fun m b => m * 10 + (b.toNat - 0x30)) 0 = v)
  ∧ decimal 7081804 8 = asciiBytes "07081804".toList ∧ decimal 0 6 = asciiBytes "000000".toList

/-! ### Generation -/

/-- R181, R180: HOTP_GEN is the word 0x00000002. With legal DIGITS and KEY_LEN it completes with the truncated value,
the OTP number, its length and its ASCII digits followed by zeros, and writes nothing else but STATUS. With an illegal
DIGITS it completes with CFG_DIGITS, else with KEY_LEN > 64 with CFG_KEYLEN, and writes no result. -/
def Obligations.HotpGenWritesTheOtp : Prop :=
  encode .hotpGen = 0x00000002#32
  ∧ (∀ s : State, ¬ (1 ≤ s.arch.DIGITS ∧ s.arch.DIGITS ≤ 9) → exec .hotpGen s = .next (s.erred .cfgDigits))
  ∧ (∀ s : State, 1 ≤ s.arch.DIGITS → s.arch.DIGITS ≤ 9 → 64 < s.arch.KEYLEN →
    exec .hotpGen s = .next (s.erred .cfgKeylen))
  ∧ ∀ s : State, s.arch.hotpLegal →
    ∃ t, exec .hotpGen s = .next t
      ∧ t = { s with arch := { s.arch with
          truncVal := t.arch.truncVal, otpBin := t.arch.otpBin, otpLen := s.arch.digits, otpAscii := t.arch.otpAscii
          errCode := .none, done := true, fsm := .idle } }
      ∧ t.arch.truncVal.toNat = (dynTrunc (hDigest s.arch.K s.arch.COUNTER64)).toNat
      ∧ t.arch.otpBin.toNat = (dynTrunc (hDigest s.arch.K s.arch.COUNTER64)).toNat % 10 ^ s.arch.DIGITS
      ∧ t.arch.otpAsciiBytes = decimal t.arch.otpBin.toNat s.arch.DIGITS ++ zeros (12 - s.arch.DIGITS)

/-- R183, R180: TOTP_GEN is the word 0x00000003. With legal DIGITS, TIME_STEP and KEY_LEN it completes with TCTR =
TIME64 div TIME_STEP and the OTP of that counter, and writes nothing else but STATUS. With an illegal DIGITS it
completes with CFG_DIGITS, else with TIME_STEP = 0 with CFG_TIMESTEP, else with KEY_LEN > 64 with CFG_KEYLEN, and
writes no result. The OTP equals that of HOTP_GEN with COUNTER64 = TIME64 div TIME_STEP. -/
def Obligations.TotpGenWritesCounterAndOtp : Prop :=
  encode .totpGen = 0x00000003#32
  ∧ (∀ s : State, ¬ (1 ≤ s.arch.DIGITS ∧ s.arch.DIGITS ≤ 9) → exec .totpGen s = .next (s.erred .cfgDigits))
  ∧ (∀ s : State, 1 ≤ s.arch.DIGITS → s.arch.DIGITS ≤ 9 → s.arch.TS = 0 →
    exec .totpGen s = .next (s.erred .cfgTimestep))
  ∧ (∀ s : State, 1 ≤ s.arch.DIGITS → s.arch.DIGITS ≤ 9 → s.arch.TS ≠ 0 → 64 < s.arch.KEYLEN →
    exec .totpGen s = .next (s.erred .cfgKeylen))
  ∧ ∀ s : State, s.arch.totpLegal →
    ∃ t, exec .totpGen s = .next t
      ∧ t = { s with arch := { s.arch with
          tctrLo := t.arch.tctrLo, tctrHi := t.arch.tctrHi
          truncVal := t.arch.truncVal, otpBin := t.arch.otpBin, otpLen := s.arch.digits, otpAscii := t.arch.otpAscii
          errCode := .none, done := true, fsm := .idle } }
      ∧ t.arch.TCTR = s.arch.TIME64 / s.arch.TS
      ∧ t.arch.truncVal.toNat = (dynTrunc (hDigest s.arch.K (s.arch.TIME64 / s.arch.TS))).toNat
      ∧ t.arch.otpBin.toNat = (dynTrunc (hDigest s.arch.K (s.arch.TIME64 / s.arch.TS))).toNat % 10 ^ s.arch.DIGITS
      ∧ t.arch.otpAsciiBytes = decimal t.arch.otpBin.toNat s.arch.DIGITS ++ zeros (12 - s.arch.DIGITS)
      ∧ ∃ u, exec .hotpGen { s with arch := { s.arch with
            counterLo := BitVec.ofNat 32 (s.arch.TIME64 / s.arch.TS % 2 ^ 32)
            counterHi := BitVec.ofNat 32 (s.arch.TIME64 / s.arch.TS / 2 ^ 32) } } = .next u
          ∧ u.arch.otpResults = t.arch.otpResults

/-- R184: two states with the same operand registers generate the same results, whatever else they hold: earlier
results, CTRL and STATUS do not matter. -/
def Obligations.GenerationDependsOnOperandsOnly : Prop :=
  ∀ s s' : State, s.arch.operands = s'.arch.operands →
    (∀ t t', exec .hotpGen s = .next t → exec .hotpGen s' = .next t' →
      t.arch.errCode = t'.arch.errCode ∧ (t.arch.errCode = .none → t.arch.otpResults = t'.arch.otpResults))
    ∧ (∀ t t', exec .totpGen s = .next t → exec .totpGen s' = .next t' →
      t.arch.errCode = t'.arch.errCode
      ∧ (t.arch.errCode = .none → t.arch.otpResults = t'.arch.otpResults ∧ t.arch.TCTR = t'.arch.TCTR))

/-- R103: the key bytes at index KEYLEN and above reach no result of any command. -/
def Obligations.KeyBytesPastTheLengthAreIgnored : Prop :=
  ∀ (s : State) (key' : Vector Word 16) (i : Instr) (t t' : State),
    (∀ j < s.arch.KEYLEN, bufByte key'.toList j = bufByte s.arch.key.toList j) →
    exec i s = .next t → exec i { s with arch := { s.arch with key := key' } } = .next t' →
    t' = { t with arch := { t.arch with key := t'.arch.key } }

/-! ### Validation -/

/-- R210: the candidate equals an expected string of n bytes exactly when its length is n and its first n bytes are the
string; no candidate byte beyond index 8 matters. -/
def Obligations.CandidateEqualityIsByteEquality : Prop :=
  (∀ (a : Arch) (e : List Byte) (n : Nat), 1 ≤ n → n ≤ 9 → e.length = n →
    (a.candEq e n = true ↔ a.CANDLEN = n ∧ bufBytes a.cand.toList n = e))
  ∧ ∀ (a : Arch) (cand' : Vector Word 4) (e : List Byte) (n : Nat), n ≤ 9 →
    (∀ j ≤ 8, bufByte cand'.toList j = a.candByte j) → ({ a with cand := cand' }).candEq e n = a.candEq e n

/-- R212: the HOTP window is the positions 0, 1, 2, … with their counters, min(L, 2^64 - C) of them: none past
2^64 - 1, and no wrap. -/
def Obligations.HotpWindowIsForwardAndCut : Prop :=
  ∀ c l : Nat, c < 2 ^ 64 → l ≤ 255 →
    (hotpWindow c l).length = min l (2 ^ 64 - c)
    ∧ ∀ i < min l (2 ^ 64 - c), (hotpWindow c l)[i]? = some (i, c + i)

/-- R214: the TOTP window is the current step c0, the previous step c0 - 1 if T ≥ TS and the next step c0 + 1 if
T + TS ≤ 2^64 - 1, in this order; these are the counters of the times T - TS and T + TS. -/
def Obligations.TotpWindowIsCurrentPreviousNext : Prop :=
  ∀ t ts : Nat, t < 2 ^ 64 → 0 < ts → ts < 2 ^ 32 →
    (∀ p c, (p, c) ∈ totpWindow t ts ↔
      (p = 0 ∧ c = t / ts) ∨ (p = 1 ∧ ts ≤ t ∧ c = t / ts - 1) ∨ (p = 2 ∧ t + ts ≤ 2 ^ 64 - 1 ∧ c = t / ts + 1))
    ∧ (totpWindow t ts).Pairwise (fun x y => x.1 < y.1)
    ∧ (ts ≤ t → totpCtr (t - ts) ts = totpCtr t ts - 1) ∧ totpCtr (t + ts) ts = totpCtr t ts + 1

/-- R213: HOTP_VAL is the word 0x00000004. With an illegal DIGITS it completes with CFG_DIGITS, else with KEY_LEN > 64
with CFG_KEYLEN, and writes no result. With legal DIGITS and KEY_LEN it completes with ERR_CODE 0 whether or not a position
matches; VALID says whether the candidate equals the OTP of some counter of [C, C + L) up to 2^64 - 1; the first match
gives MATCH_IDX and MATCH_CTR, which are 0 without one; NTRIED = min(L, 2^64 - C); nothing else but STATUS is written. -/
def Obligations.HotpValFindsTheFirstMatch : Prop :=
  encode .hotpVal = 0x00000004#32
  ∧ (∀ s : State, ¬ (1 ≤ s.arch.DIGITS ∧ s.arch.DIGITS ≤ 9) → exec .hotpVal s = .next (s.erred .cfgDigits))
  ∧ (∀ s : State, 1 ≤ s.arch.DIGITS → s.arch.DIGITS ≤ 9 → 64 < s.arch.KEYLEN →
    exec .hotpVal s = .next (s.erred .cfgKeylen))
  ∧ ∀ s : State, s.arch.hotpLegal →
    ∃ t, exec .hotpVal s = .next t
      ∧ t = { s with arch := { s.arch with
          valid := t.arch.valid, matchIdx := t.arch.matchIdx, ntried := t.arch.ntried
          matchCtrLo := t.arch.matchCtrLo, matchCtrHi := t.arch.matchCtrHi
          errCode := .none, done := true, fsm := .idle } }
      ∧ t.arch.ntried.toNat = min s.arch.LOOKAHEAD (2 ^ 64 - s.arch.COUNTER64)
      ∧ (t.arch.valid = true ↔
          ∃ c, s.arch.COUNTER64 ≤ c ∧ c < s.arch.COUNTER64 + s.arch.LOOKAHEAD ∧ c ≤ 2 ^ 64 - 1 ∧ s.arch.matchesAt c)
      ∧ (t.arch.valid = true →
          t.arch.matchIdx.toNat < t.arch.ntried.toNat
          ∧ t.arch.MATCHCTR = s.arch.COUNTER64 + t.arch.matchIdx.toNat
          ∧ s.arch.matchesAt t.arch.MATCHCTR
          ∧ ∀ c, s.arch.COUNTER64 ≤ c → c < t.arch.MATCHCTR → ¬ s.arch.matchesAt c)
      ∧ (t.arch.valid = false → t.arch.matchIdx = 0 ∧ t.arch.MATCHCTR = 0)

/-- R215: TOTP_VAL is the word 0x00000005. With an illegal DIGITS it completes with CFG_DIGITS, else with TIME_STEP = 0
with CFG_TIMESTEP, else with KEY_LEN > 64 with CFG_KEYLEN, and writes no result. Otherwise it completes with ERR_CODE 0, TCTR = c0, the
first match among the current, the previous (if T ≥ TS) and the next step (if T + TS ≤ 2^64 - 1), and NTRIED the number
of steps in the window; without a match VALID, MATCH_IDX and MATCH_CTR are 0; nothing else but STATUS is written. -/
def Obligations.TotpValChecksCurrentPreviousNext : Prop :=
  encode .totpVal = 0x00000005#32
  ∧ (∀ s : State, ¬ (1 ≤ s.arch.DIGITS ∧ s.arch.DIGITS ≤ 9) → exec .totpVal s = .next (s.erred .cfgDigits))
  ∧ (∀ s : State, 1 ≤ s.arch.DIGITS → s.arch.DIGITS ≤ 9 → s.arch.TS = 0 →
    exec .totpVal s = .next (s.erred .cfgTimestep))
  ∧ (∀ s : State, 1 ≤ s.arch.DIGITS → s.arch.DIGITS ≤ 9 → s.arch.TS ≠ 0 → 64 < s.arch.KEYLEN →
    exec .totpVal s = .next (s.erred .cfgKeylen))
  ∧ ∀ s : State, s.arch.totpLegal →
    ∃ t, exec .totpVal s = .next t
      ∧ t = { s with arch := { s.arch with
          tctrLo := t.arch.tctrLo, tctrHi := t.arch.tctrHi
          valid := t.arch.valid, matchIdx := t.arch.matchIdx, ntried := t.arch.ntried
          matchCtrLo := t.arch.matchCtrLo, matchCtrHi := t.arch.matchCtrHi
          errCode := .none, done := true, fsm := .idle } }
      ∧ t.arch.TCTR = s.arch.TIME64 / s.arch.TS
      ∧ t.arch.ntried.toNat = 1 + (if s.arch.TS ≤ s.arch.TIME64 then 1 else 0)
          + (if s.arch.TIME64 + s.arch.TS ≤ 2 ^ 64 - 1 then 1 else 0)
      ∧ (t.arch.valid, t.arch.matchIdx.toNat, t.arch.MATCHCTR) =
          if s.arch.matchesAt (s.arch.TIME64 / s.arch.TS) then (true, 0, s.arch.TIME64 / s.arch.TS)
          else if s.arch.TS ≤ s.arch.TIME64 ∧ s.arch.matchesAt (s.arch.TIME64 / s.arch.TS - 1) then
            (true, 1, s.arch.TIME64 / s.arch.TS - 1)
          else if s.arch.TIME64 + s.arch.TS ≤ 2 ^ 64 - 1 ∧ s.arch.matchesAt (s.arch.TIME64 / s.arch.TS + 1) then
            (true, 2, s.arch.TIME64 / s.arch.TS + 1)
          else (false, 0, 0)

/-- R218: the round trip. The OTP that HOTP_GEN wrote, loaded as the candidate, is accepted by HOTP_VAL at the same key,
counter and DIGITS with MATCH_IDX 0, for any LOOKAHEAD ≥ 1 and any counter. -/
def Obligations.GeneratedOtpValidates : Prop :=
  ∀ s t u : State, exec .hotpGen s = .next t → t.arch.errCode = .none →
    u.arch.K = s.arch.K → u.arch.COUNTER64 = s.arch.COUNTER64 → u.arch.DIGITS = s.arch.DIGITS →
    1 ≤ u.arch.LOOKAHEAD → u.arch.CANDLEN = t.arch.otpLen.toNat →
    (∀ j < t.arch.otpLen.toNat, u.arch.candByte j = t.arch.otpAsciiBytes.getD j 0) →
    ∃ r, exec .hotpVal u = .next r ∧ r.arch.errCode = .none ∧ r.arch.valid = true ∧ r.arch.matchIdx = 0
      ∧ r.arch.MATCHCTR = s.arch.COUNTER64

/-- R219: the outputs of a validation command depend on the key and the candidate only through which window counters
match: two states that agree on CFG, COUNTER, TIME and TIME_STEP and on which counters of the command's own window match
validate alike. The window is [COUNTER64, COUNTER64 + LOOKAHEAD) up to 2^64 - 1 for HOTP_VAL, and the current, previous
and next step for TOTP_VAL. -/
def Obligations.ValidationRevealsOnlyMatches : Prop :=
  ∀ s s' : State, s.arch.digits = s'.arch.digits → s.arch.lookahead = s'.arch.lookahead →
    s.arch.timeStep = s'.arch.timeStep → s.arch.COUNTER64 = s'.arch.COUNTER64 → s.arch.TIME64 = s'.arch.TIME64 →
    s.arch.KEYLEN ≤ 64 → s'.arch.KEYLEN ≤ 64 → s.arch.sameResults s'.arch →
    ((∀ c, s.arch.COUNTER64 ≤ c → c < s.arch.COUNTER64 + s.arch.LOOKAHEAD → c ≤ 2 ^ 64 - 1 →
        (s.arch.matchesAt c ↔ s'.arch.matchesAt c)) →
      ∀ t t', exec .hotpVal s = .next t → exec .hotpVal s' = .next t' →
        t.arch.sameResults t'.arch ∧ t.arch.errCode = t'.arch.errCode
          ∧ t.arch.otpResults = s.arch.otpResults ∧ t.arch.operands = s.arch.operands)
    ∧ ((∀ p ∈ totpWindow s.arch.TIME64 s.arch.TS, (s.arch.matchesAt p.2 ↔ s'.arch.matchesAt p.2)) →
      ∀ t t', exec .totpVal s = .next t → exec .totpVal s' = .next t' →
        t.arch.sameResults t'.arch ∧ t.arch.errCode = t'.arch.errCode
          ∧ t.arch.otpResults = s.arch.otpResults ∧ t.arch.operands = s.arch.operands)

/-! ### Errors and frames of all commands -/

/-- R276, R271, R272: the error code of a completion is the first cause in the order CFG_DIGITS, CFG_TIMESTEP (TOTP
commands), CFG_KEYLEN, INPUT_LENGTH (TRUNC), and NONE when no cause applies. -/
def Obligations.ErrorCodeIsTheFirstCause : Prop :=
  ∀ (s t : State) (i : Instr), exec i s = .next t →
    let badDigits := s.arch.DIGITS < 1 ∨ 9 < s.arch.DIGITS
    t.arch.errCode =
      match i with
      | .nop | .zeroize => .none
      | .trunc => if s.arch.DINLEN ≠ 20 then .inputLength else .none
      | .hotpGen | .hotpVal => if badDigits then .cfgDigits else if 64 < s.arch.KEYLEN then .cfgKeylen else .none
      | .totpGen | .totpVal =>
        if badDigits then .cfgDigits else if s.arch.TS = 0 then .cfgTimestep
        else if 64 < s.arch.KEYLEN then .cfgKeylen else .none

/-- R30, R216 and the "Registers written" lines: every command but ZEROIZE leaves every operand register as it was, and
ZEROIZE leaves CFG, TIME_STEP, COUNTER and TIME; no command changes CTRL, IGNORED or the outside world's record. -/
def Obligations.CommandsKeepOperandsAndControl : Prop :=
  ∀ (i : Instr) (s t : State), exec i s = .next t →
    (i ≠ .zeroize → t.arch.operands = s.arch.operands)
    ∧ t.arch.digits = s.arch.digits ∧ t.arch.lookahead = s.arch.lookahead ∧ t.arch.timeStep = s.arch.timeStep
    ∧ t.arch.COUNTER64 = s.arch.COUNTER64 ∧ t.arch.TIME64 = s.arch.TIME64
    ∧ t.arch.irqEn = s.arch.irqEn ∧ t.arch.ignored = s.arch.ignored
    ∧ t.pending = s.pending ∧ t.resp = s.resp ∧ t.latency = s.latency ∧ t.accepted = s.accepted

/-- The "Registers written" lines of R166, R181, R183, R213, R215, R244, R245: after a command every register of the
window reads as before, except those the command writes. -/
def Obligations.CommandsWriteOnlyTheirRegisters : Prop :=
  ∀ (i : Instr) (s t : State) (off : Nat), exec i s = .next t → off ∉ writtenOffsets i →
    t.arch.read off = s.arch.read off

/-! ### SHA-1 and HMAC -/

/-- R132: the schedule of a 64-byte block has 80 words, the first 16 are the block's big-endian words and every later
one is ROTL_1 of the four words before it that the rule names. -/
def Obligations.Sha1ScheduleRecurrence : Prop :=
  ∀ b : List Byte, b.length = 64 →
    (sha1Schedule b).length = 80
    ∧ (∀ t < 16, (sha1Schedule b).getD t 0 = BitVec.ofNat 32 (intBE (slice b (4 * t) (4 * t + 4))))
    ∧ ∀ t, 16 ≤ t → t < 80 →
      (sha1Schedule b).getD t 0 = rotl 1 ((sha1Schedule b).getD (t - 3) 0 ^^^ (sha1Schedule b).getD (t - 8) 0
        ^^^ (sha1Schedule b).getD (t - 14) 0 ^^^ (sha1Schedule b).getD (t - 16) 0)

/-- R130: the padded message is M, the byte 0x80, the least number of zero bytes that makes (n + 1 + k) mod 64 = 56, and
the bit length in 8 bytes; its length is a multiple of 64. -/
def Obligations.Sha1PaddingIsLeast : Prop :=
  ∀ m : List Byte, 8 * m.length < 2 ^ 64 →
    ∃ k, (m.length + 1 + k) % 64 = 56 ∧ (∀ j < k, (m.length + 1 + j) % 64 ≠ 56)
      ∧ sha1Pad m = m ++ [0x80] ++ List.replicate k 0x00 ++ beBytes 8 (8 * m.length)
      ∧ (sha1Pad m).length % 64 = 0

/-- R130 to R137: hashes have 20 bytes, the prepared key has 64, and a key longer than a block gives the same HMAC as
its hash. The published vectors V-SHA-2, V-SHA-3 and V-HMAC-2 of spec/95_test_vectors.md come out: one block, two blocks
and the nesting of the two hashes. -/
def Obligations.HmacLengthsAndLongKeys : Prop :=
  (∀ m : List Byte, (sha1 m).length = 20)
  ∧ (∀ k : List Byte, (hmacKey k).length = 64)
  ∧ (∀ k text : List Byte, (hmacSha1 k text).length = 20)
  ∧ (∀ k text : List Byte, 64 < k.length → hmacSha1 k text = hmacSha1 (sha1 k) text)
  ∧ hexBytes "a9993e364706816aba3e25717850c26c9cd0d89d".toList = some (sha1 (asciiBytes "abc".toList))
  ∧ hexBytes "84983e441c3bd26ebaae4aa1f95129e5e54670f1".toList
      = some (sha1 (asciiBytes "abcdbcdecdefdefgefghfghighijhijkijkljklmklmnlmnomnopnopq".toList))
  ∧ hexBytes "effcdf6ae5eb2fa2d27416d5f184df9c259a7c79".toList
      = some (hmacSha1 (asciiBytes "Jefe".toList) (asciiBytes "what do ya want for nothing?".toList))

/-- R138: the counter is 8 bytes, big-endian, byte j being the counter's bits [63 - 8j : 56 - 8j], and it reads back. -/
def Obligations.CounterBytesAreBigEndian : Prop :=
  (∀ c : Nat, c < 2 ^ 64 →
    (ctrBytes c).length = 8 ∧ intBE (ctrBytes c) = c
    ∧ ∀ j < 8, ((ctrBytes c).getD j 0).toNat = c / 2 ^ (56 - 8 * j) % 256)
  ∧ ctrBytes 1 = [0, 0, 0, 0, 0, 0, 0, 1]

/-- R182: TotpCtr is the floor quotient, it fits 64 bits, and the register pair TCTR holds it. -/
def Obligations.TotpCounterIsFloorAndFits : Prop :=
  (∀ t ts : Nat, t < 2 ^ 64 → 0 < ts → ts < 2 ^ 32 →
    totpCtr t ts * ts ≤ t ∧ t < (totpCtr t ts + 1) * ts ∧ totpCtr t ts ≤ 2 ^ 64 - 1)
  ∧ (∀ (a : Arch) (c : Nat), c ≤ 2 ^ 64 - 1 → (a.writeTctr c).TCTR = c)
  ∧ totpCtr 59 30 = 1 ∧ totpCtr 29 30 = 0 ∧ totpCtr 30 30 = 1

/-! ### The bus -/

/-- R78: a read changes no register, and a second read with nothing between answers the same value. -/
def Obligations.ReadsHaveNoSideEffects : Prop :=
  ∀ (s : State) (off size : Nat) (rest : List HostAction), off < 4096 →
    s.pending = .read (Config.otpeBase + off) size :: .read (Config.otpeBase + off) size :: rest →
    (s.arch.fsm = .idle ∨ 2 ≤ s.latency) →
    ∃ t u, step s = .next t ∧ step t = .next u ∧ t.arch = s.arch ∧ u.arch = s.arch ∧ u.resp = t.resp ∧ t.resp ≠ none
      ∧ (off % 4 = 0 → size = 4 → t.resp = some { error := false, data := s.arch.read off })

/-- R73, R275: a transaction that is not 4 bytes wide on a multiple of 4 gets BusError with data 0 and changes no
register, not even IGNORED. -/
def Obligations.UnsupportedAccessGetsBusError : Prop :=
  ∀ (s : State) (off size : Nat) (v : Word) (action : HostAction) (rest : List HostAction), off < 4096 →
    (off % 4 ≠ 0 ∨ size ≠ 4) →
    (action = .read (Config.otpeBase + off) size ∨ action = .write (Config.otpeBase + off) size v) →
    s.pending = action :: rest → s.hostTurn →
    ∃ t, step s = .next t ∧ t.arch = s.arch ∧ t.resp = some { error := true, data := 0 } ∧ t.accepted = s.accepted

/-- R243, for each write while Busy: a write to CTRL or STATUS takes effect as usual, and a write to any other aligned offset changes
nothing but sets IGNORED; either completes OK. Reads are not affected: a read answers the register and changes none. The recorded
response of a write, OK with data 0, is the model's choice (log 5). -/
def Obligations.WritesWhileBusyAreDropped : Prop :=
  (∀ (s : State) (off : Nat) (rest : List HostAction), off < 4096 → off % 4 = 0 → s.arch.BUSY = true →
    s.latency ≠ 0 → s.pending = .read (Config.otpeBase + off) 4 :: rest →
    ∃ t, step s = .next t ∧ t.resp = some { error := false, data := s.arch.read off } ∧ t.arch = s.arch)
  ∧ ∀ (s : State) (off : Nat) (v : Word) (rest : List HostAction), off < 4096 → off % 4 = 0 → s.arch.BUSY = true →
    s.latency ≠ 0 → s.pending = .write (Config.otpeBase + off) 4 v :: rest →
    ∃ t, step s = .next t ∧ t.resp = some { error := false, data := 0 }
      ∧ t.arch =
        if off = 0x008 then (if v.getLsbD 1 then State.reset.arch else { s.arch with irqEn := v.getLsbD 0 })
        else if off = 0x00C then
          { s.arch with done := s.arch.done && !v.getLsbD 1, ignored := s.arch.ignored && !v.getLsbD 3 }
        else { s.arch with ignored := true }

/-- R24: a write to CTRL is always accepted; it resets the block if bit 1 is set, else it sets IRQ_EN from bit 0, whose
reset value is 0; CTRL then reads IRQ_EN in bit 0 and 0 in every other bit, and while IRQ_EN is 1 irq follows DONE. The
recorded response of the write, OK with data 0, is the model's choice (log 5). -/
def Obligations.CtrlWriteSetsIrqEnOrResets : Prop :=
  State.reset.arch.irqEn = false
  ∧ ∀ (s : State) (v : Word) (rest : List HostAction), s.hostTurn →
    s.pending = .write (Config.otpeBase + 0x008) 4 v :: rest →
    ∃ t, step s = .next t ∧ t.arch = (if v.getLsbD 1 then State.reset.arch else { s.arch with irqEn := v.getLsbD 0 })
      ∧ t.arch.read 0x008 = (if t.arch.irqEn then 1 else 0) ∧ (t.arch.irqEn = true → t.arch.irq = t.arch.done)
      ∧ t.resp = some { error := false, data := 0 }

/-- R25: STATUS reads BUSY, DONE, ERR = (ERR_CODE ≠ 0), IGNORED and ERR_CODE (at most 5) in their bits and 0 elsewhere;
a write to it is always accepted and clears DONE and IGNORED where bits 1 and 3 are set, and nothing else. -/
def Obligations.StatusFieldsAndWriteOneToClear : Prop :=
  (∀ a : Arch, (a.read 0x00C).toNat = (if a.BUSY then 1 else 0) + (if a.done then 2 else 0)
      + (if a.errCode.toNat ≠ 0 then 4 else 0) + (if a.ignored then 8 else 0) + 2 ^ 8 * a.errCode.toNat
    ∧ a.errCode.toNat ≤ 5)
  ∧ ∀ (s : State) (v : Word) (rest : List HostAction), s.hostTurn →
    s.pending = .write (Config.otpeBase + 0x00C) 4 v :: rest →
    ∃ t, step s = .next t
      ∧ t.arch = { s.arch with done := s.arch.done && !v.getLsbD 1, ignored := s.arch.ignored && !v.getLsbD 3 }

/-- R46: irq is CTRL.IRQ_EN and STATUS.DONE as they are read, and 0 after reset. -/
def Obligations.IrqIsEnableAndDone : Prop :=
  (∀ a : Arch, a.irq = ((a.read 0x008).getLsbD 0 && (a.read 0x00C).getLsbD 1)) ∧ State.reset.arch.irq = false

/-- R27 to R35: while Idle a write to a readable operand register is in effect at once: it reads back in its stored bits
and 0 in its reserved bits, every other register reads as before, and the key, fsm and the results stay. -/
def Obligations.OperandWritesReadBack : Prop :=
  ∀ (s : State) (v : Word) (rest : List HostAction) (off : Nat) (mask : Word), (off, mask) ∈ readBackMasks →
    s.arch.fsm = .idle → s.pending = .write (Config.otpeBase + off) 4 v :: rest →
    ∃ t, step s = .next t ∧ t.arch.read off = v &&& mask
      ∧ (∀ off', off' ≠ off → t.arch.read off' = s.arch.read off')
      ∧ t.arch.key = s.arch.key ∧ t.arch.fsm = .idle ∧ t.arch.sameResults s.arch

/-- R36: while Idle a write to KEY<k> stores the word and leaves the other key words; every read answers as before, and
a KEY register reads 0; and no read at any offset depends on the key. -/
def Obligations.KeyRegistersAreWriteOnly : Prop :=
  (∀ (s : State) (k : Fin 16) (v : Word) (rest : List HostAction), s.arch.fsm = .idle →
    s.pending = .write (Config.otpeBase + 0x080 + 4 * k.val) 4 v :: rest →
    ∃ t, step s = .next t ∧ t.arch.key[k] = v ∧ (∀ j : Fin 16, j ≠ k → t.arch.key[j] = s.arch.key[j])
      ∧ (∀ off, t.arch.read off = s.arch.read off) ∧ t.arch.read (0x080 + 4 * k.val) = 0)
  ∧ ∀ (a : Arch) (key' : Vector Word 16) (off : Nat), ({ a with key := key' }).read off = a.read off

/-- R43, R23: reserved offsets read 0; a write to a reserved or read-only register changes nothing while Idle, and
while Busy it counts as an ignored write. The recorded response of the write, OK with data 0, is the model's choice
(log 5). -/
def Obligations.ReservedAndReadOnlyIgnoreWrites : Prop :=
  (∀ (a : Arch) (off : Nat), reservedOffset off → a.read off = 0)
  ∧ ∀ (s : State) (off : Nat) (v : Word) (rest : List HostAction), off < 4096 → off % 4 = 0 →
    (reservedOffset off ∨ off ∈ readOnlyOffsets) → s.hostTurn →
    s.pending = .write (Config.otpeBase + off) 4 v :: rest →
    ∃ t, step s = .next t ∧ t.resp = some { error := false, data := 0 }
      ∧ t.arch = if s.arch.BUSY then { s.arch with ignored := true } else s.arch

/-- R71: the window is 4096 bytes at a 4096-byte aligned base; a transaction at an address outside it does not reach the
OTPE. -/
def Obligations.AddressesOutsideTheWindowDoNotReach : Prop :=
  Config.otpeBase % 4096 = 0
  ∧ (∀ off, off < 4096 → windowOffset (Config.otpeBase + off) = some off)
  ∧ ∀ (s : State) (addr size : Nat) (v : Word) (action : HostAction) (rest : List HostAction),
    (addr < Config.otpeBase ∨ Config.otpeBase + 4096 ≤ addr) →
    (action = .read addr size ∨ action = .write addr size v) → s.pending = action :: rest → s.hostTurn →
    ∃ t, step s = .next t ∧ t.arch = s.arch ∧ t.resp = s.resp

/-- R21, R22, R26, R27, R37 to R42: ID, VERSION and CMD read their constants in every state, and CFG and VRES their
fields in their bits and 0 elsewhere. TRUNC_VAL, OTP_BIN and OTP_LEN read their fields, which stay below 2^31, 2^30 and
2^4; OTP_ASCII<k> reads its word; TCTR_LO, TCTR_HI and MATCH_CTR_LO, MATCH_CTR_HI read the halves of their values. -/
def Obligations.RegisterReadLayouts : Prop :=
  ∀ a : Arch, a.read 0x000 = 0x4F545045 ∧ a.read 0x004 = 0x00010000 ∧ a.read 0x010 = 0
    ∧ (a.read 0x014).toNat = a.DIGITS + 2 ^ 8 * a.LOOKAHEAD
    ∧ (a.read 0x128).toNat = (if a.valid then 1 else 0) + 2 ^ 8 * a.matchIdx.toNat + 2 ^ 16 * a.ntried.toNat
    ∧ (a.read 0x100).toNat = a.truncVal.toNat ∧ (a.read 0x104).toNat = a.otpBin.toNat
    ∧ (a.read 0x108).toNat = a.otpLen.toNat
    ∧ (a.read 0x100).toNat < 2 ^ 31 ∧ (a.read 0x104).toNat < 2 ^ 30 ∧ (a.read 0x108).toNat < 2 ^ 4
    ∧ (∀ k : Fin 3, a.read (0x110 + 4 * k.val) = a.otpAscii[k])
    ∧ (a.read 0x120).toNat = a.TCTR % 2 ^ 32 ∧ (a.read 0x124).toNat = a.TCTR / 2 ^ 32
    ∧ (a.read 0x130).toNat = a.MATCHCTR % 2 ^ 32 ∧ (a.read 0x134).toNat = a.MATCHCTR / 2 ^ 32

/-! ### Packing and the host sequence -/

/-- R248, R107: a host that polls STATUS.BUSY for 0 (WAIT) while a command is in flight gets there after exactly
latency + 2 steps: one read for each step of the latency, the completion, and the read that sees BUSY = 0. -/
def Obligations.PollingBusyTerminates : Prop :=
  ∀ (s : State) (w : Word) (rest : List HostAction), s.arch.fsm = .busy w → s.pending = expandOp .wait ++ rest →
    ∃ t, runsTo (s.latency + 2) s t ∧ t.pending = rest ∧ t.arch.fsm = .idle ∧ t.arch.done = true
      ∧ t.resp = some { error := false, data := t.arch.read 0x00C }

/-- R75: packing bytes into words puts byte j of the sequence into bits [31 - 8(j mod 4) : 24 - 8(j mod 4)] of word
j div 4, so a 20-byte digest packed into five words comes back as the same 20 bytes. -/
def Obligations.PackedWordsGiveTheBytesBack : Prop :=
  ∀ d : List Byte, d.length = 20 →
    bufBytes [packWord d 0, packWord d 1, packWord d 2, packWord d 3, packWord d 4] 20 = d
    ∧ ∀ j < 20, (d.getD j 0).toNat
        = (packWord d (j / 4)).toNat / 2 ^ (24 - 8 * (j % 4)) % 256

/-- R107, R103: the transactions of LOADKEY, taken while Idle, leave K equal to the loaded bytes, for every key of at
most 64 bytes; nothing but the key and its length changes. -/
def Obligations.LoadKeyLoadsTheKey : Prop :=
  ∀ (s : State) (key : List Byte) (rest : List HostAction), (HostOp.loadKey key).wellFormed = true →
    s.arch.fsm = .idle → s.pending = expandOp (.loadKey key) ++ rest →
    ∃ t, runsTo (expandOp (.loadKey key)).length s t ∧ t.arch.K = key ∧ t.pending = rest
      ∧ t.arch = { s.arch with key := t.arch.key, keyLen := t.arch.keyLen }

/-- R107, R76: the two transactions of SETCTR, taken while Idle, leave COUNTER64 equal to the value, and those of
SETTIME leave TIME64 equal to it; nothing else changes. -/
def Obligations.SetCounterAndTimeWriteThePairs : Prop :=
  ∀ (s : State) (n : Nat) (rest : List HostAction), n < 2 ^ 64 → s.arch.fsm = .idle →
    (s.pending = expandOp (.setCtr n) ++ rest →
      ∃ t, runsTo 2 s t ∧ t.arch.COUNTER64 = n ∧ t.pending = rest
        ∧ t.arch = { s.arch with counterLo := t.arch.counterLo, counterHi := t.arch.counterHi })
    ∧ (s.pending = expandOp (.setTime n) ++ rest →
      ∃ t, runsTo 2 s t ∧ t.arch.TIME64 = n ∧ t.pending = rest
        ∧ t.arch = { s.arch with timeLo := t.arch.timeLo, timeHi := t.arch.timeHi })

/-- R103, R75, R76, R27 to R36: a write to an operand register while Idle sets the operand view the commands use, and no
other view: the numbers DIGITS, LOOKAHEAD, TS, KEYLEN, CANDLEN and DINLEN, one half of COUNTER64 or of TIME64, or four
bytes of the candidate, the digest input or the key, big-endian. K is the first KEYLEN bytes of the key buffer. -/
def Obligations.OperandWritesSetTheViews : Prop :=
  (∀ (s : State) (v : Word) (rest : List HostAction) (off : Nat), off ∈ operandOffsets → s.arch.fsm = .idle →
    s.pending = .write (Config.otpeBase + off) 4 v :: rest →
    ∃ t, step s = .next t ∧ t.arch.views = s.arch.views.afterWrite off v)
  ∧ ∀ a : Arch, a.KEYLEN ≤ 64 → a.K = a.views.key.take a.KEYLEN
end

