-- ==== Sys2Proof/Laws/Bytes.lean ====
section
/-! SUPPORT. Lengths and values of byte sequences, register pairs and flag bits (spec/00_scope.md R9; spec/20_memory.md
R75, R76), and the lengths of SHA-1's parts (spec/40_hmac_sha1.md). -/

namespace Sys2Proof.Machine

@[simp] theorem beBytes_length (n v : Nat) : (beBytes n v).length = n := by
  induction n with
  | zero => rfl
  | succ n ih => simp [beBytes, ih]

@[simp] theorem zeros_length (n : Nat) : (zeros n).length = n := List.length_replicate

@[simp] theorem xorByte_length (s : List Byte) (b : Byte) : (xorByte s b).length = s.length := List.length_map ..

@[simp] theorem bufBytes_length (ws : List Word) (n : Nat) : (bufBytes ws n).length = n := by simp [bufBytes]

theorem bufBytes_getD (ws : List Word) (n j : Nat) (h : j < n) : (bufBytes ws n).getD j 0 = bufByte ws j := by
  simp [bufBytes, List.getD, h]

@[simp] theorem digest_length (h : HashWords) : h.digest.length = 20 := by simp [HashWords.digest]

/-- `int_BE` read from the left: the bytes so far weigh 256 to the number of bytes still to come. -/
theorem intBE_foldl (s : List Byte) (n : Nat) :
    s.foldl (fun n b => 256 * n + b.toNat) n = n * 256 ^ s.length + intBE s := by
  induction s generalizing n with
  | nil => simp [intBE]
  | cons b s ih =>
    simp only [intBE, List.foldl_cons, List.length_cons] at *
    rw [ih (256 * n + b.toNat), ih (256 * 0 + b.toNat), pow_succ]
    ring

theorem intBE_cons (b : Byte) (s : List Byte) : intBE (b :: s) = b.toNat * 256 ^ s.length + intBE s := by
  simpa [intBE] using intBE_foldl s b.toNat

theorem intBE_append (s t : List Byte) : intBE (s ++ t) = intBE s * 256 ^ t.length + intBE t := by
  simpa [intBE, List.foldl_append] using intBE_foldl t (intBE s)

theorem intBE_lt (s : List Byte) : intBE s < 256 ^ s.length := by
  induction s with
  | nil => simp [intBE]
  | cons b s ih =>
    rw [intBE_cons, List.length_cons, pow_succ]
    have := b.isLt
    nlinarith [Nat.one_le_pow s.length 256 (by norm_num)]

/-- The low `n` bytes of a number are what `BE_n` keeps. -/
theorem intBE_beBytes (n v : Nat) : intBE (beBytes n v) = v % 256 ^ n := by
  induction n with
  | zero => simp [beBytes, intBE, Nat.mod_one]
  | succ n ih =>
    rw [beBytes, intBE_cons, ih, beBytes_length, BitVec.toNat_ofNat, Nat.pow_succ 256 n, Nat.mod_mul]
    ring

/-- A buffer byte as a number: the word shifted down to it (R75). -/
theorem bufByte_toNat (ws : List Word) (j : Nat) :
    (bufByte ws j).toNat = (ws.getD (j / 4) 0).toNat / 2 ^ (24 - 8 * (j % 4)) % 256 := by
  simp [bufByte, BitVec.extractLsb', Nat.shiftRight_eq_div_pow]

/-- The two halves of a 64-bit value give it back (R76). -/
theorem pairValue_halves (n : Nat) (h : n < 2 ^ 64) : pairValue (hiHalf n) (loHalf n) = n := by
  simp only [pairValue, hiHalf, loHalf, BitVec.toNat_ofNat]
  omega

theorem pairValue_lt (hi lo : Word) : pairValue hi lo < 2 ^ 64 := by
  have h := hi.isLt
  have l := lo.isLt
  simp only [pairValue]
  omega

theorem flagBit_toNat (b : Bool) (n : Nat) (h : n < 32) : (flagBit b n).toNat = if b then 2 ^ n else 0 := by
  cases b
  · rfl
  · have : 2 ^ n < 2 ^ 32 := Nat.pow_lt_pow_right (by norm_num) h
    simp only [flagBit, if_true, BitVec.toNat_shiftLeft, BitVec.toNat_ofNat, Nat.shiftLeft_eq]
    omega

theorem flagBit_getLsbD (b : Bool) (n i : Nat) (h : n < 32) : (flagBit b n).getLsbD i = (b && decide (i = n)) := by
  cases b
  · simp [flagBit]
  · simp only [flagBit, if_true, Bool.true_and, BitVec.getLsbD_shiftLeft, BitVec.getLsbD_one]
    by_cases h' : i = n
    · subst h'; simp [h]
    · have : ¬ (i < 32 ∧ ¬ i < n ∧ i - n = 0) := by omega
      simp only [h', decide_false]
      by_contra hc
      simp at hc
      omega

end Sys2Proof.Machine
end

