-- ==== Sys2Proof/Laws/State.lean ====
section
/-! SUPPORT. One lemma per field per named update of the state, each true by rfl, and the same for the register groups
of Safety: no later proof unfolds a record update. -/

namespace Sys2Proof.Machine

/-! ### A completion -/

@[simp] theorem Arch.finish_irqEn (a : Arch) (c : ErrCode) : (a.finish c).irqEn = a.irqEn := rfl
@[simp] theorem Arch.finish_done (a : Arch) (c : ErrCode) : (a.finish c).done = true := rfl
@[simp] theorem Arch.finish_ignored (a : Arch) (c : ErrCode) : (a.finish c).ignored = a.ignored := rfl
@[simp] theorem Arch.finish_errCode (a : Arch) (c : ErrCode) : (a.finish c).errCode = c := rfl
@[simp] theorem Arch.finish_digits (a : Arch) (c : ErrCode) : (a.finish c).digits = a.digits := rfl
@[simp] theorem Arch.finish_lookahead (a : Arch) (c : ErrCode) : (a.finish c).lookahead = a.lookahead := rfl
@[simp] theorem Arch.finish_timeStep (a : Arch) (c : ErrCode) : (a.finish c).timeStep = a.timeStep := rfl
@[simp] theorem Arch.finish_keyLen (a : Arch) (c : ErrCode) : (a.finish c).keyLen = a.keyLen := rfl
@[simp] theorem Arch.finish_counterLo (a : Arch) (c : ErrCode) : (a.finish c).counterLo = a.counterLo := rfl
@[simp] theorem Arch.finish_counterHi (a : Arch) (c : ErrCode) : (a.finish c).counterHi = a.counterHi := rfl
@[simp] theorem Arch.finish_timeLo (a : Arch) (c : ErrCode) : (a.finish c).timeLo = a.timeLo := rfl
@[simp] theorem Arch.finish_timeHi (a : Arch) (c : ErrCode) : (a.finish c).timeHi = a.timeHi := rfl
@[simp] theorem Arch.finish_candLen (a : Arch) (c : ErrCode) : (a.finish c).candLen = a.candLen := rfl
@[simp] theorem Arch.finish_dinLen (a : Arch) (c : ErrCode) : (a.finish c).dinLen = a.dinLen := rfl
@[simp] theorem Arch.finish_cand (a : Arch) (c : ErrCode) : (a.finish c).cand = a.cand := rfl
@[simp] theorem Arch.finish_din (a : Arch) (c : ErrCode) : (a.finish c).din = a.din := rfl
@[simp] theorem Arch.finish_key (a : Arch) (c : ErrCode) : (a.finish c).key = a.key := rfl
@[simp] theorem Arch.finish_truncVal (a : Arch) (c : ErrCode) : (a.finish c).truncVal = a.truncVal := rfl
@[simp] theorem Arch.finish_otpBin (a : Arch) (c : ErrCode) : (a.finish c).otpBin = a.otpBin := rfl
@[simp] theorem Arch.finish_otpLen (a : Arch) (c : ErrCode) : (a.finish c).otpLen = a.otpLen := rfl
@[simp] theorem Arch.finish_otpAscii (a : Arch) (c : ErrCode) : (a.finish c).otpAscii = a.otpAscii := rfl
@[simp] theorem Arch.finish_tctrLo (a : Arch) (c : ErrCode) : (a.finish c).tctrLo = a.tctrLo := rfl
@[simp] theorem Arch.finish_tctrHi (a : Arch) (c : ErrCode) : (a.finish c).tctrHi = a.tctrHi := rfl
@[simp] theorem Arch.finish_valid (a : Arch) (c : ErrCode) : (a.finish c).valid = a.valid := rfl
@[simp] theorem Arch.finish_matchIdx (a : Arch) (c : ErrCode) : (a.finish c).matchIdx = a.matchIdx := rfl
@[simp] theorem Arch.finish_ntried (a : Arch) (c : ErrCode) : (a.finish c).ntried = a.ntried := rfl
@[simp] theorem Arch.finish_matchCtrLo (a : Arch) (c : ErrCode) : (a.finish c).matchCtrLo = a.matchCtrLo := rfl
@[simp] theorem Arch.finish_matchCtrHi (a : Arch) (c : ErrCode) : (a.finish c).matchCtrHi = a.matchCtrHi := rfl
@[simp] theorem Arch.finish_fsm (a : Arch) (c : ErrCode) : (a.finish c).fsm = .idle := rfl

/-! ### Acceptance -/

@[simp] theorem Arch.latch_irqEn (a : Arch) (w : Word) : (a.latch w).irqEn = a.irqEn := rfl
@[simp] theorem Arch.latch_done (a : Arch) (w : Word) : (a.latch w).done = false := rfl
@[simp] theorem Arch.latch_ignored (a : Arch) (w : Word) : (a.latch w).ignored = a.ignored := rfl
@[simp] theorem Arch.latch_errCode (a : Arch) (w : Word) : (a.latch w).errCode = a.errCode := rfl
@[simp] theorem Arch.latch_digits (a : Arch) (w : Word) : (a.latch w).digits = a.digits := rfl
@[simp] theorem Arch.latch_lookahead (a : Arch) (w : Word) : (a.latch w).lookahead = a.lookahead := rfl
@[simp] theorem Arch.latch_timeStep (a : Arch) (w : Word) : (a.latch w).timeStep = a.timeStep := rfl
@[simp] theorem Arch.latch_keyLen (a : Arch) (w : Word) : (a.latch w).keyLen = a.keyLen := rfl
@[simp] theorem Arch.latch_counterLo (a : Arch) (w : Word) : (a.latch w).counterLo = a.counterLo := rfl
@[simp] theorem Arch.latch_counterHi (a : Arch) (w : Word) : (a.latch w).counterHi = a.counterHi := rfl
@[simp] theorem Arch.latch_timeLo (a : Arch) (w : Word) : (a.latch w).timeLo = a.timeLo := rfl
@[simp] theorem Arch.latch_timeHi (a : Arch) (w : Word) : (a.latch w).timeHi = a.timeHi := rfl
@[simp] theorem Arch.latch_candLen (a : Arch) (w : Word) : (a.latch w).candLen = a.candLen := rfl
@[simp] theorem Arch.latch_dinLen (a : Arch) (w : Word) : (a.latch w).dinLen = a.dinLen := rfl
@[simp] theorem Arch.latch_cand (a : Arch) (w : Word) : (a.latch w).cand = a.cand := rfl
@[simp] theorem Arch.latch_din (a : Arch) (w : Word) : (a.latch w).din = a.din := rfl
@[simp] theorem Arch.latch_key (a : Arch) (w : Word) : (a.latch w).key = a.key := rfl
@[simp] theorem Arch.latch_truncVal (a : Arch) (w : Word) : (a.latch w).truncVal = a.truncVal := rfl
@[simp] theorem Arch.latch_otpBin (a : Arch) (w : Word) : (a.latch w).otpBin = a.otpBin := rfl
@[simp] theorem Arch.latch_otpLen (a : Arch) (w : Word) : (a.latch w).otpLen = a.otpLen := rfl
@[simp] theorem Arch.latch_otpAscii (a : Arch) (w : Word) : (a.latch w).otpAscii = a.otpAscii := rfl
@[simp] theorem Arch.latch_tctrLo (a : Arch) (w : Word) : (a.latch w).tctrLo = a.tctrLo := rfl
@[simp] theorem Arch.latch_tctrHi (a : Arch) (w : Word) : (a.latch w).tctrHi = a.tctrHi := rfl
@[simp] theorem Arch.latch_valid (a : Arch) (w : Word) : (a.latch w).valid = a.valid := rfl
@[simp] theorem Arch.latch_matchIdx (a : Arch) (w : Word) : (a.latch w).matchIdx = a.matchIdx := rfl
@[simp] theorem Arch.latch_ntried (a : Arch) (w : Word) : (a.latch w).ntried = a.ntried := rfl
@[simp] theorem Arch.latch_matchCtrLo (a : Arch) (w : Word) : (a.latch w).matchCtrLo = a.matchCtrLo := rfl
@[simp] theorem Arch.latch_matchCtrHi (a : Arch) (w : Word) : (a.latch w).matchCtrHi = a.matchCtrHi := rfl
@[simp] theorem Arch.latch_fsm (a : Arch) (w : Word) : (a.latch w).fsm = .busy w := rfl

/-! ### IRQ_EN -/

@[simp] theorem Arch.setIrqEn_irqEn (a : Arch) (b : Bool) : (a.setIrqEn b).irqEn = b := rfl
@[simp] theorem Arch.setIrqEn_done (a : Arch) (b : Bool) : (a.setIrqEn b).done = a.done := rfl
@[simp] theorem Arch.setIrqEn_ignored (a : Arch) (b : Bool) : (a.setIrqEn b).ignored = a.ignored := rfl
@[simp] theorem Arch.setIrqEn_errCode (a : Arch) (b : Bool) : (a.setIrqEn b).errCode = a.errCode := rfl
@[simp] theorem Arch.setIrqEn_digits (a : Arch) (b : Bool) : (a.setIrqEn b).digits = a.digits := rfl
@[simp] theorem Arch.setIrqEn_lookahead (a : Arch) (b : Bool) : (a.setIrqEn b).lookahead = a.lookahead := rfl
@[simp] theorem Arch.setIrqEn_timeStep (a : Arch) (b : Bool) : (a.setIrqEn b).timeStep = a.timeStep := rfl
@[simp] theorem Arch.setIrqEn_keyLen (a : Arch) (b : Bool) : (a.setIrqEn b).keyLen = a.keyLen := rfl
@[simp] theorem Arch.setIrqEn_counterLo (a : Arch) (b : Bool) : (a.setIrqEn b).counterLo = a.counterLo := rfl
@[simp] theorem Arch.setIrqEn_counterHi (a : Arch) (b : Bool) : (a.setIrqEn b).counterHi = a.counterHi := rfl
@[simp] theorem Arch.setIrqEn_timeLo (a : Arch) (b : Bool) : (a.setIrqEn b).timeLo = a.timeLo := rfl
@[simp] theorem Arch.setIrqEn_timeHi (a : Arch) (b : Bool) : (a.setIrqEn b).timeHi = a.timeHi := rfl
@[simp] theorem Arch.setIrqEn_candLen (a : Arch) (b : Bool) : (a.setIrqEn b).candLen = a.candLen := rfl
@[simp] theorem Arch.setIrqEn_dinLen (a : Arch) (b : Bool) : (a.setIrqEn b).dinLen = a.dinLen := rfl
@[simp] theorem Arch.setIrqEn_cand (a : Arch) (b : Bool) : (a.setIrqEn b).cand = a.cand := rfl
@[simp] theorem Arch.setIrqEn_din (a : Arch) (b : Bool) : (a.setIrqEn b).din = a.din := rfl
@[simp] theorem Arch.setIrqEn_key (a : Arch) (b : Bool) : (a.setIrqEn b).key = a.key := rfl
@[simp] theorem Arch.setIrqEn_truncVal (a : Arch) (b : Bool) : (a.setIrqEn b).truncVal = a.truncVal := rfl
@[simp] theorem Arch.setIrqEn_otpBin (a : Arch) (b : Bool) : (a.setIrqEn b).otpBin = a.otpBin := rfl
@[simp] theorem Arch.setIrqEn_otpLen (a : Arch) (b : Bool) : (a.setIrqEn b).otpLen = a.otpLen := rfl
@[simp] theorem Arch.setIrqEn_otpAscii (a : Arch) (b : Bool) : (a.setIrqEn b).otpAscii = a.otpAscii := rfl
@[simp] theorem Arch.setIrqEn_tctrLo (a : Arch) (b : Bool) : (a.setIrqEn b).tctrLo = a.tctrLo := rfl
@[simp] theorem Arch.setIrqEn_tctrHi (a : Arch) (b : Bool) : (a.setIrqEn b).tctrHi = a.tctrHi := rfl
@[simp] theorem Arch.setIrqEn_valid (a : Arch) (b : Bool) : (a.setIrqEn b).valid = a.valid := rfl
@[simp] theorem Arch.setIrqEn_matchIdx (a : Arch) (b : Bool) : (a.setIrqEn b).matchIdx = a.matchIdx := rfl
@[simp] theorem Arch.setIrqEn_ntried (a : Arch) (b : Bool) : (a.setIrqEn b).ntried = a.ntried := rfl
@[simp] theorem Arch.setIrqEn_matchCtrLo (a : Arch) (b : Bool) : (a.setIrqEn b).matchCtrLo = a.matchCtrLo := rfl
@[simp] theorem Arch.setIrqEn_matchCtrHi (a : Arch) (b : Bool) : (a.setIrqEn b).matchCtrHi = a.matchCtrHi := rfl
@[simp] theorem Arch.setIrqEn_fsm (a : Arch) (b : Bool) : (a.setIrqEn b).fsm = a.fsm := rfl

/-! ### IGNORED -/

@[simp] theorem Arch.setIgnored_irqEn (a : Arch) : (a.setIgnored).irqEn = a.irqEn := rfl
@[simp] theorem Arch.setIgnored_done (a : Arch) : (a.setIgnored).done = a.done := rfl
@[simp] theorem Arch.setIgnored_ignored (a : Arch) : (a.setIgnored).ignored = true := rfl
@[simp] theorem Arch.setIgnored_errCode (a : Arch) : (a.setIgnored).errCode = a.errCode := rfl
@[simp] theorem Arch.setIgnored_digits (a : Arch) : (a.setIgnored).digits = a.digits := rfl
@[simp] theorem Arch.setIgnored_lookahead (a : Arch) : (a.setIgnored).lookahead = a.lookahead := rfl
@[simp] theorem Arch.setIgnored_timeStep (a : Arch) : (a.setIgnored).timeStep = a.timeStep := rfl
@[simp] theorem Arch.setIgnored_keyLen (a : Arch) : (a.setIgnored).keyLen = a.keyLen := rfl
@[simp] theorem Arch.setIgnored_counterLo (a : Arch) : (a.setIgnored).counterLo = a.counterLo := rfl
@[simp] theorem Arch.setIgnored_counterHi (a : Arch) : (a.setIgnored).counterHi = a.counterHi := rfl
@[simp] theorem Arch.setIgnored_timeLo (a : Arch) : (a.setIgnored).timeLo = a.timeLo := rfl
@[simp] theorem Arch.setIgnored_timeHi (a : Arch) : (a.setIgnored).timeHi = a.timeHi := rfl
@[simp] theorem Arch.setIgnored_candLen (a : Arch) : (a.setIgnored).candLen = a.candLen := rfl
@[simp] theorem Arch.setIgnored_dinLen (a : Arch) : (a.setIgnored).dinLen = a.dinLen := rfl
@[simp] theorem Arch.setIgnored_cand (a : Arch) : (a.setIgnored).cand = a.cand := rfl
@[simp] theorem Arch.setIgnored_din (a : Arch) : (a.setIgnored).din = a.din := rfl
@[simp] theorem Arch.setIgnored_key (a : Arch) : (a.setIgnored).key = a.key := rfl
@[simp] theorem Arch.setIgnored_truncVal (a : Arch) : (a.setIgnored).truncVal = a.truncVal := rfl
@[simp] theorem Arch.setIgnored_otpBin (a : Arch) : (a.setIgnored).otpBin = a.otpBin := rfl
@[simp] theorem Arch.setIgnored_otpLen (a : Arch) : (a.setIgnored).otpLen = a.otpLen := rfl
@[simp] theorem Arch.setIgnored_otpAscii (a : Arch) : (a.setIgnored).otpAscii = a.otpAscii := rfl
@[simp] theorem Arch.setIgnored_tctrLo (a : Arch) : (a.setIgnored).tctrLo = a.tctrLo := rfl
@[simp] theorem Arch.setIgnored_tctrHi (a : Arch) : (a.setIgnored).tctrHi = a.tctrHi := rfl
@[simp] theorem Arch.setIgnored_valid (a : Arch) : (a.setIgnored).valid = a.valid := rfl
@[simp] theorem Arch.setIgnored_matchIdx (a : Arch) : (a.setIgnored).matchIdx = a.matchIdx := rfl
@[simp] theorem Arch.setIgnored_ntried (a : Arch) : (a.setIgnored).ntried = a.ntried := rfl
@[simp] theorem Arch.setIgnored_matchCtrLo (a : Arch) : (a.setIgnored).matchCtrLo = a.matchCtrLo := rfl
@[simp] theorem Arch.setIgnored_matchCtrHi (a : Arch) : (a.setIgnored).matchCtrHi = a.matchCtrHi := rfl
@[simp] theorem Arch.setIgnored_fsm (a : Arch) : (a.setIgnored).fsm = a.fsm := rfl

/-! ### A write to STATUS -/

@[simp] theorem Arch.writeStatus_irqEn (a : Arch) (v : Word) : (a.writeStatus v).irqEn = a.irqEn := rfl
@[simp] theorem Arch.writeStatus_done (a : Arch) (v : Word) : (a.writeStatus v).done = (a.done && !v.getLsbD 1) := rfl
@[simp] theorem Arch.writeStatus_ignored (a : Arch) (v : Word) : (a.writeStatus v).ignored = (a.ignored && !v.getLsbD 3) := rfl
@[simp] theorem Arch.writeStatus_errCode (a : Arch) (v : Word) : (a.writeStatus v).errCode = a.errCode := rfl
@[simp] theorem Arch.writeStatus_digits (a : Arch) (v : Word) : (a.writeStatus v).digits = a.digits := rfl
@[simp] theorem Arch.writeStatus_lookahead (a : Arch) (v : Word) : (a.writeStatus v).lookahead = a.lookahead := rfl
@[simp] theorem Arch.writeStatus_timeStep (a : Arch) (v : Word) : (a.writeStatus v).timeStep = a.timeStep := rfl
@[simp] theorem Arch.writeStatus_keyLen (a : Arch) (v : Word) : (a.writeStatus v).keyLen = a.keyLen := rfl
@[simp] theorem Arch.writeStatus_counterLo (a : Arch) (v : Word) : (a.writeStatus v).counterLo = a.counterLo := rfl
@[simp] theorem Arch.writeStatus_counterHi (a : Arch) (v : Word) : (a.writeStatus v).counterHi = a.counterHi := rfl
@[simp] theorem Arch.writeStatus_timeLo (a : Arch) (v : Word) : (a.writeStatus v).timeLo = a.timeLo := rfl
@[simp] theorem Arch.writeStatus_timeHi (a : Arch) (v : Word) : (a.writeStatus v).timeHi = a.timeHi := rfl
@[simp] theorem Arch.writeStatus_candLen (a : Arch) (v : Word) : (a.writeStatus v).candLen = a.candLen := rfl
@[simp] theorem Arch.writeStatus_dinLen (a : Arch) (v : Word) : (a.writeStatus v).dinLen = a.dinLen := rfl
@[simp] theorem Arch.writeStatus_cand (a : Arch) (v : Word) : (a.writeStatus v).cand = a.cand := rfl
@[simp] theorem Arch.writeStatus_din (a : Arch) (v : Word) : (a.writeStatus v).din = a.din := rfl
@[simp] theorem Arch.writeStatus_key (a : Arch) (v : Word) : (a.writeStatus v).key = a.key := rfl
@[simp] theorem Arch.writeStatus_truncVal (a : Arch) (v : Word) : (a.writeStatus v).truncVal = a.truncVal := rfl
@[simp] theorem Arch.writeStatus_otpBin (a : Arch) (v : Word) : (a.writeStatus v).otpBin = a.otpBin := rfl
@[simp] theorem Arch.writeStatus_otpLen (a : Arch) (v : Word) : (a.writeStatus v).otpLen = a.otpLen := rfl
@[simp] theorem Arch.writeStatus_otpAscii (a : Arch) (v : Word) : (a.writeStatus v).otpAscii = a.otpAscii := rfl
@[simp] theorem Arch.writeStatus_tctrLo (a : Arch) (v : Word) : (a.writeStatus v).tctrLo = a.tctrLo := rfl
@[simp] theorem Arch.writeStatus_tctrHi (a : Arch) (v : Word) : (a.writeStatus v).tctrHi = a.tctrHi := rfl
@[simp] theorem Arch.writeStatus_valid (a : Arch) (v : Word) : (a.writeStatus v).valid = a.valid := rfl
@[simp] theorem Arch.writeStatus_matchIdx (a : Arch) (v : Word) : (a.writeStatus v).matchIdx = a.matchIdx := rfl
@[simp] theorem Arch.writeStatus_ntried (a : Arch) (v : Word) : (a.writeStatus v).ntried = a.ntried := rfl
@[simp] theorem Arch.writeStatus_matchCtrLo (a : Arch) (v : Word) : (a.writeStatus v).matchCtrLo = a.matchCtrLo := rfl
@[simp] theorem Arch.writeStatus_matchCtrHi (a : Arch) (v : Word) : (a.writeStatus v).matchCtrHi = a.matchCtrHi := rfl
@[simp] theorem Arch.writeStatus_fsm (a : Arch) (v : Word) : (a.writeStatus v).fsm = a.fsm := rfl

/-! ### The TOTP counter -/

@[simp] theorem Arch.writeTctr_irqEn (a : Arch) (c : Nat) : (a.writeTctr c).irqEn = a.irqEn := rfl
@[simp] theorem Arch.writeTctr_done (a : Arch) (c : Nat) : (a.writeTctr c).done = a.done := rfl
@[simp] theorem Arch.writeTctr_ignored (a : Arch) (c : Nat) : (a.writeTctr c).ignored = a.ignored := rfl
@[simp] theorem Arch.writeTctr_errCode (a : Arch) (c : Nat) : (a.writeTctr c).errCode = a.errCode := rfl
@[simp] theorem Arch.writeTctr_digits (a : Arch) (c : Nat) : (a.writeTctr c).digits = a.digits := rfl
@[simp] theorem Arch.writeTctr_lookahead (a : Arch) (c : Nat) : (a.writeTctr c).lookahead = a.lookahead := rfl
@[simp] theorem Arch.writeTctr_timeStep (a : Arch) (c : Nat) : (a.writeTctr c).timeStep = a.timeStep := rfl
@[simp] theorem Arch.writeTctr_keyLen (a : Arch) (c : Nat) : (a.writeTctr c).keyLen = a.keyLen := rfl
@[simp] theorem Arch.writeTctr_counterLo (a : Arch) (c : Nat) : (a.writeTctr c).counterLo = a.counterLo := rfl
@[simp] theorem Arch.writeTctr_counterHi (a : Arch) (c : Nat) : (a.writeTctr c).counterHi = a.counterHi := rfl
@[simp] theorem Arch.writeTctr_timeLo (a : Arch) (c : Nat) : (a.writeTctr c).timeLo = a.timeLo := rfl
@[simp] theorem Arch.writeTctr_timeHi (a : Arch) (c : Nat) : (a.writeTctr c).timeHi = a.timeHi := rfl
@[simp] theorem Arch.writeTctr_candLen (a : Arch) (c : Nat) : (a.writeTctr c).candLen = a.candLen := rfl
@[simp] theorem Arch.writeTctr_dinLen (a : Arch) (c : Nat) : (a.writeTctr c).dinLen = a.dinLen := rfl
@[simp] theorem Arch.writeTctr_cand (a : Arch) (c : Nat) : (a.writeTctr c).cand = a.cand := rfl
@[simp] theorem Arch.writeTctr_din (a : Arch) (c : Nat) : (a.writeTctr c).din = a.din := rfl
@[simp] theorem Arch.writeTctr_key (a : Arch) (c : Nat) : (a.writeTctr c).key = a.key := rfl
@[simp] theorem Arch.writeTctr_truncVal (a : Arch) (c : Nat) : (a.writeTctr c).truncVal = a.truncVal := rfl
@[simp] theorem Arch.writeTctr_otpBin (a : Arch) (c : Nat) : (a.writeTctr c).otpBin = a.otpBin := rfl
@[simp] theorem Arch.writeTctr_otpLen (a : Arch) (c : Nat) : (a.writeTctr c).otpLen = a.otpLen := rfl
@[simp] theorem Arch.writeTctr_otpAscii (a : Arch) (c : Nat) : (a.writeTctr c).otpAscii = a.otpAscii := rfl
@[simp] theorem Arch.writeTctr_tctrLo (a : Arch) (c : Nat) : (a.writeTctr c).tctrLo = loHalf c := rfl
@[simp] theorem Arch.writeTctr_tctrHi (a : Arch) (c : Nat) : (a.writeTctr c).tctrHi = hiHalf c := rfl
@[simp] theorem Arch.writeTctr_valid (a : Arch) (c : Nat) : (a.writeTctr c).valid = a.valid := rfl
@[simp] theorem Arch.writeTctr_matchIdx (a : Arch) (c : Nat) : (a.writeTctr c).matchIdx = a.matchIdx := rfl
@[simp] theorem Arch.writeTctr_ntried (a : Arch) (c : Nat) : (a.writeTctr c).ntried = a.ntried := rfl
@[simp] theorem Arch.writeTctr_matchCtrLo (a : Arch) (c : Nat) : (a.writeTctr c).matchCtrLo = a.matchCtrLo := rfl
@[simp] theorem Arch.writeTctr_matchCtrHi (a : Arch) (c : Nat) : (a.writeTctr c).matchCtrHi = a.matchCtrHi := rfl
@[simp] theorem Arch.writeTctr_fsm (a : Arch) (c : Nat) : (a.writeTctr c).fsm = a.fsm := rfl

/-! ### The OTP results -/

@[simp] theorem Arch.writeOtp_irqEn (a : Arch) (k : List Byte) (c n : Nat) : (a.writeOtp k c n).irqEn = a.irqEn := rfl
@[simp] theorem Arch.writeOtp_done (a : Arch) (k : List Byte) (c n : Nat) : (a.writeOtp k c n).done = a.done := rfl
@[simp] theorem Arch.writeOtp_ignored (a : Arch) (k : List Byte) (c n : Nat) : (a.writeOtp k c n).ignored = a.ignored := rfl
@[simp] theorem Arch.writeOtp_errCode (a : Arch) (k : List Byte) (c n : Nat) : (a.writeOtp k c n).errCode = a.errCode := rfl
@[simp] theorem Arch.writeOtp_digits (a : Arch) (k : List Byte) (c n : Nat) : (a.writeOtp k c n).digits = a.digits := rfl
@[simp] theorem Arch.writeOtp_lookahead (a : Arch) (k : List Byte) (c n : Nat) : (a.writeOtp k c n).lookahead = a.lookahead := rfl
@[simp] theorem Arch.writeOtp_timeStep (a : Arch) (k : List Byte) (c n : Nat) : (a.writeOtp k c n).timeStep = a.timeStep := rfl
@[simp] theorem Arch.writeOtp_keyLen (a : Arch) (k : List Byte) (c n : Nat) : (a.writeOtp k c n).keyLen = a.keyLen := rfl
@[simp] theorem Arch.writeOtp_counterLo (a : Arch) (k : List Byte) (c n : Nat) : (a.writeOtp k c n).counterLo = a.counterLo := rfl
@[simp] theorem Arch.writeOtp_counterHi (a : Arch) (k : List Byte) (c n : Nat) : (a.writeOtp k c n).counterHi = a.counterHi := rfl
@[simp] theorem Arch.writeOtp_timeLo (a : Arch) (k : List Byte) (c n : Nat) : (a.writeOtp k c n).timeLo = a.timeLo := rfl
@[simp] theorem Arch.writeOtp_timeHi (a : Arch) (k : List Byte) (c n : Nat) : (a.writeOtp k c n).timeHi = a.timeHi := rfl
@[simp] theorem Arch.writeOtp_candLen (a : Arch) (k : List Byte) (c n : Nat) : (a.writeOtp k c n).candLen = a.candLen := rfl
@[simp] theorem Arch.writeOtp_dinLen (a : Arch) (k : List Byte) (c n : Nat) : (a.writeOtp k c n).dinLen = a.dinLen := rfl
@[simp] theorem Arch.writeOtp_cand (a : Arch) (k : List Byte) (c n : Nat) : (a.writeOtp k c n).cand = a.cand := rfl
@[simp] theorem Arch.writeOtp_din (a : Arch) (k : List Byte) (c n : Nat) : (a.writeOtp k c n).din = a.din := rfl
@[simp] theorem Arch.writeOtp_key (a : Arch) (k : List Byte) (c n : Nat) : (a.writeOtp k c n).key = a.key := rfl
@[simp] theorem Arch.writeOtp_truncVal (a : Arch) (k : List Byte) (c n : Nat) : (a.writeOtp k c n).truncVal = (truncOf k c).setWidth 31 := rfl
@[simp] theorem Arch.writeOtp_otpBin (a : Arch) (k : List Byte) (c n : Nat) : (a.writeOtp k c n).otpBin = BitVec.ofNat 30 (otpNum (truncOf k c).toNat n) := rfl
@[simp] theorem Arch.writeOtp_otpLen (a : Arch) (k : List Byte) (c n : Nat) : (a.writeOtp k c n).otpLen = BitVec.ofNat 4 n := rfl
@[simp] theorem Arch.writeOtp_otpAscii (a : Arch) (k : List Byte) (c n : Nat) : (a.writeOtp k c n).otpAscii = #v[packWord (otpStr k c n ++ zeros (12 - n)) 0,
      packWord (otpStr k c n ++ zeros (12 - n)) 1, packWord (otpStr k c n ++ zeros (12 - n)) 2] := rfl
@[simp] theorem Arch.writeOtp_tctrLo (a : Arch) (k : List Byte) (c n : Nat) : (a.writeOtp k c n).tctrLo = a.tctrLo := rfl
@[simp] theorem Arch.writeOtp_tctrHi (a : Arch) (k : List Byte) (c n : Nat) : (a.writeOtp k c n).tctrHi = a.tctrHi := rfl
@[simp] theorem Arch.writeOtp_valid (a : Arch) (k : List Byte) (c n : Nat) : (a.writeOtp k c n).valid = a.valid := rfl
@[simp] theorem Arch.writeOtp_matchIdx (a : Arch) (k : List Byte) (c n : Nat) : (a.writeOtp k c n).matchIdx = a.matchIdx := rfl
@[simp] theorem Arch.writeOtp_ntried (a : Arch) (k : List Byte) (c n : Nat) : (a.writeOtp k c n).ntried = a.ntried := rfl
@[simp] theorem Arch.writeOtp_matchCtrLo (a : Arch) (k : List Byte) (c n : Nat) : (a.writeOtp k c n).matchCtrLo = a.matchCtrLo := rfl
@[simp] theorem Arch.writeOtp_matchCtrHi (a : Arch) (k : List Byte) (c n : Nat) : (a.writeOtp k c n).matchCtrHi = a.matchCtrHi := rfl
@[simp] theorem Arch.writeOtp_fsm (a : Arch) (k : List Byte) (c n : Nat) : (a.writeOtp k c n).fsm = a.fsm := rfl

/-! ### The validation results -/

@[simp] theorem Arch.writeVres_irqEn (a : Arch) (w : List (Nat × Nat)) (m : Match) : (a.writeVres w m).irqEn = a.irqEn := rfl
@[simp] theorem Arch.writeVres_done (a : Arch) (w : List (Nat × Nat)) (m : Match) : (a.writeVres w m).done = a.done := rfl
@[simp] theorem Arch.writeVres_ignored (a : Arch) (w : List (Nat × Nat)) (m : Match) : (a.writeVres w m).ignored = a.ignored := rfl
@[simp] theorem Arch.writeVres_errCode (a : Arch) (w : List (Nat × Nat)) (m : Match) : (a.writeVres w m).errCode = a.errCode := rfl
@[simp] theorem Arch.writeVres_digits (a : Arch) (w : List (Nat × Nat)) (m : Match) : (a.writeVres w m).digits = a.digits := rfl
@[simp] theorem Arch.writeVres_lookahead (a : Arch) (w : List (Nat × Nat)) (m : Match) : (a.writeVres w m).lookahead = a.lookahead := rfl
@[simp] theorem Arch.writeVres_timeStep (a : Arch) (w : List (Nat × Nat)) (m : Match) : (a.writeVres w m).timeStep = a.timeStep := rfl
@[simp] theorem Arch.writeVres_keyLen (a : Arch) (w : List (Nat × Nat)) (m : Match) : (a.writeVres w m).keyLen = a.keyLen := rfl
@[simp] theorem Arch.writeVres_counterLo (a : Arch) (w : List (Nat × Nat)) (m : Match) : (a.writeVres w m).counterLo = a.counterLo := rfl
@[simp] theorem Arch.writeVres_counterHi (a : Arch) (w : List (Nat × Nat)) (m : Match) : (a.writeVres w m).counterHi = a.counterHi := rfl
@[simp] theorem Arch.writeVres_timeLo (a : Arch) (w : List (Nat × Nat)) (m : Match) : (a.writeVres w m).timeLo = a.timeLo := rfl
@[simp] theorem Arch.writeVres_timeHi (a : Arch) (w : List (Nat × Nat)) (m : Match) : (a.writeVres w m).timeHi = a.timeHi := rfl
@[simp] theorem Arch.writeVres_candLen (a : Arch) (w : List (Nat × Nat)) (m : Match) : (a.writeVres w m).candLen = a.candLen := rfl
@[simp] theorem Arch.writeVres_dinLen (a : Arch) (w : List (Nat × Nat)) (m : Match) : (a.writeVres w m).dinLen = a.dinLen := rfl
@[simp] theorem Arch.writeVres_cand (a : Arch) (w : List (Nat × Nat)) (m : Match) : (a.writeVres w m).cand = a.cand := rfl
@[simp] theorem Arch.writeVres_din (a : Arch) (w : List (Nat × Nat)) (m : Match) : (a.writeVres w m).din = a.din := rfl
@[simp] theorem Arch.writeVres_key (a : Arch) (w : List (Nat × Nat)) (m : Match) : (a.writeVres w m).key = a.key := rfl
@[simp] theorem Arch.writeVres_truncVal (a : Arch) (w : List (Nat × Nat)) (m : Match) : (a.writeVres w m).truncVal = a.truncVal := rfl
@[simp] theorem Arch.writeVres_otpBin (a : Arch) (w : List (Nat × Nat)) (m : Match) : (a.writeVres w m).otpBin = a.otpBin := rfl
@[simp] theorem Arch.writeVres_otpLen (a : Arch) (w : List (Nat × Nat)) (m : Match) : (a.writeVres w m).otpLen = a.otpLen := rfl
@[simp] theorem Arch.writeVres_otpAscii (a : Arch) (w : List (Nat × Nat)) (m : Match) : (a.writeVres w m).otpAscii = a.otpAscii := rfl
@[simp] theorem Arch.writeVres_tctrLo (a : Arch) (w : List (Nat × Nat)) (m : Match) : (a.writeVres w m).tctrLo = a.tctrLo := rfl
@[simp] theorem Arch.writeVres_tctrHi (a : Arch) (w : List (Nat × Nat)) (m : Match) : (a.writeVres w m).tctrHi = a.tctrHi := rfl
@[simp] theorem Arch.writeVres_valid (a : Arch) (w : List (Nat × Nat)) (m : Match) : (a.writeVres w m).valid = m.found := rfl
@[simp] theorem Arch.writeVres_matchIdx (a : Arch) (w : List (Nat × Nat)) (m : Match) : (a.writeVres w m).matchIdx = BitVec.ofNat 8 m.idx := rfl
@[simp] theorem Arch.writeVres_ntried (a : Arch) (w : List (Nat × Nat)) (m : Match) : (a.writeVres w m).ntried = BitVec.ofNat 8 w.length := rfl
@[simp] theorem Arch.writeVres_matchCtrLo (a : Arch) (w : List (Nat × Nat)) (m : Match) : (a.writeVres w m).matchCtrLo = loHalf m.ctr := rfl
@[simp] theorem Arch.writeVres_matchCtrHi (a : Arch) (w : List (Nat × Nat)) (m : Match) : (a.writeVres w m).matchCtrHi = hiHalf m.ctr := rfl
@[simp] theorem Arch.writeVres_fsm (a : Arch) (w : List (Nat × Nat)) (m : Match) : (a.writeVres w m).fsm = a.fsm := rfl

/-! ### ZEROIZE -/

@[simp] theorem Arch.zeroized_irqEn (a : Arch) : (a.zeroized).irqEn = a.irqEn := rfl
@[simp] theorem Arch.zeroized_done (a : Arch) : (a.zeroized).done = a.done := rfl
@[simp] theorem Arch.zeroized_ignored (a : Arch) : (a.zeroized).ignored = a.ignored := rfl
@[simp] theorem Arch.zeroized_errCode (a : Arch) : (a.zeroized).errCode = a.errCode := rfl
@[simp] theorem Arch.zeroized_digits (a : Arch) : (a.zeroized).digits = a.digits := rfl
@[simp] theorem Arch.zeroized_lookahead (a : Arch) : (a.zeroized).lookahead = a.lookahead := rfl
@[simp] theorem Arch.zeroized_timeStep (a : Arch) : (a.zeroized).timeStep = a.timeStep := rfl
@[simp] theorem Arch.zeroized_keyLen (a : Arch) : (a.zeroized).keyLen = 0 := rfl
@[simp] theorem Arch.zeroized_counterLo (a : Arch) : (a.zeroized).counterLo = a.counterLo := rfl
@[simp] theorem Arch.zeroized_counterHi (a : Arch) : (a.zeroized).counterHi = a.counterHi := rfl
@[simp] theorem Arch.zeroized_timeLo (a : Arch) : (a.zeroized).timeLo = a.timeLo := rfl
@[simp] theorem Arch.zeroized_timeHi (a : Arch) : (a.zeroized).timeHi = a.timeHi := rfl
@[simp] theorem Arch.zeroized_candLen (a : Arch) : (a.zeroized).candLen = 0 := rfl
@[simp] theorem Arch.zeroized_dinLen (a : Arch) : (a.zeroized).dinLen = 0 := rfl
@[simp] theorem Arch.zeroized_cand (a : Arch) : (a.zeroized).cand = Vector.replicate 4 0 := rfl
@[simp] theorem Arch.zeroized_din (a : Arch) : (a.zeroized).din = Vector.replicate 5 0 := rfl
@[simp] theorem Arch.zeroized_key (a : Arch) : (a.zeroized).key = Vector.replicate 16 0 := rfl
@[simp] theorem Arch.zeroized_truncVal (a : Arch) : (a.zeroized).truncVal = 0 := rfl
@[simp] theorem Arch.zeroized_otpBin (a : Arch) : (a.zeroized).otpBin = 0 := rfl
@[simp] theorem Arch.zeroized_otpLen (a : Arch) : (a.zeroized).otpLen = 0 := rfl
@[simp] theorem Arch.zeroized_otpAscii (a : Arch) : (a.zeroized).otpAscii = Vector.replicate 3 0 := rfl
@[simp] theorem Arch.zeroized_tctrLo (a : Arch) : (a.zeroized).tctrLo = 0 := rfl
@[simp] theorem Arch.zeroized_tctrHi (a : Arch) : (a.zeroized).tctrHi = 0 := rfl
@[simp] theorem Arch.zeroized_valid (a : Arch) : (a.zeroized).valid = false := rfl
@[simp] theorem Arch.zeroized_matchIdx (a : Arch) : (a.zeroized).matchIdx = 0 := rfl
@[simp] theorem Arch.zeroized_ntried (a : Arch) : (a.zeroized).ntried = 0 := rfl
@[simp] theorem Arch.zeroized_matchCtrLo (a : Arch) : (a.zeroized).matchCtrLo = 0 := rfl
@[simp] theorem Arch.zeroized_matchCtrHi (a : Arch) : (a.zeroized).matchCtrHi = 0 := rfl
@[simp] theorem Arch.zeroized_fsm (a : Arch) : (a.zeroized).fsm = a.fsm := rfl

/-! ### Register groups -/

@[simp] theorem Arch.finish_operands (a : Arch) (c : ErrCode) : (a.finish c).operands = a.operands := rfl
@[simp] theorem Arch.finish_otpResults (a : Arch) (c : ErrCode) : (a.finish c).otpResults = a.otpResults := rfl
@[simp] theorem Arch.finish_matchResults (a : Arch) (c : ErrCode) : (a.finish c).matchResults = a.matchResults := rfl
@[simp] theorem Arch.finish_TCTR (a : Arch) (c : ErrCode) : (a.finish c).TCTR = a.TCTR := rfl
@[simp] theorem Arch.finish_MATCHCTR (a : Arch) (c : ErrCode) : (a.finish c).MATCHCTR = a.MATCHCTR := rfl
@[simp] theorem Arch.latch_operands (a : Arch) (w : Word) : (a.latch w).operands = a.operands := rfl
@[simp] theorem Arch.latch_otpResults (a : Arch) (w : Word) : (a.latch w).otpResults = a.otpResults := rfl
@[simp] theorem Arch.latch_matchResults (a : Arch) (w : Word) : (a.latch w).matchResults = a.matchResults := rfl
@[simp] theorem Arch.latch_TCTR (a : Arch) (w : Word) : (a.latch w).TCTR = a.TCTR := rfl
@[simp] theorem Arch.latch_MATCHCTR (a : Arch) (w : Word) : (a.latch w).MATCHCTR = a.MATCHCTR := rfl
@[simp] theorem Arch.setIrqEn_operands (a : Arch) (b : Bool) : (a.setIrqEn b).operands = a.operands := rfl
@[simp] theorem Arch.setIrqEn_otpResults (a : Arch) (b : Bool) : (a.setIrqEn b).otpResults = a.otpResults := rfl
@[simp] theorem Arch.setIrqEn_matchResults (a : Arch) (b : Bool) : (a.setIrqEn b).matchResults = a.matchResults := rfl
@[simp] theorem Arch.setIrqEn_TCTR (a : Arch) (b : Bool) : (a.setIrqEn b).TCTR = a.TCTR := rfl
@[simp] theorem Arch.setIrqEn_MATCHCTR (a : Arch) (b : Bool) : (a.setIrqEn b).MATCHCTR = a.MATCHCTR := rfl
@[simp] theorem Arch.setIgnored_operands (a : Arch) : (a.setIgnored).operands = a.operands := rfl
@[simp] theorem Arch.setIgnored_otpResults (a : Arch) : (a.setIgnored).otpResults = a.otpResults := rfl
@[simp] theorem Arch.setIgnored_matchResults (a : Arch) : (a.setIgnored).matchResults = a.matchResults := rfl
@[simp] theorem Arch.setIgnored_TCTR (a : Arch) : (a.setIgnored).TCTR = a.TCTR := rfl
@[simp] theorem Arch.setIgnored_MATCHCTR (a : Arch) : (a.setIgnored).MATCHCTR = a.MATCHCTR := rfl
@[simp] theorem Arch.writeStatus_operands (a : Arch) (v : Word) : (a.writeStatus v).operands = a.operands := rfl
@[simp] theorem Arch.writeStatus_otpResults (a : Arch) (v : Word) : (a.writeStatus v).otpResults = a.otpResults := rfl
@[simp] theorem Arch.writeStatus_matchResults (a : Arch) (v : Word) : (a.writeStatus v).matchResults = a.matchResults := rfl
@[simp] theorem Arch.writeStatus_TCTR (a : Arch) (v : Word) : (a.writeStatus v).TCTR = a.TCTR := rfl
@[simp] theorem Arch.writeStatus_MATCHCTR (a : Arch) (v : Word) : (a.writeStatus v).MATCHCTR = a.MATCHCTR := rfl
@[simp] theorem Arch.writeTctr_operands (a : Arch) (c : Nat) : (a.writeTctr c).operands = a.operands := rfl
@[simp] theorem Arch.writeTctr_otpResults (a : Arch) (c : Nat) : (a.writeTctr c).otpResults = a.otpResults := rfl
@[simp] theorem Arch.writeTctr_matchResults (a : Arch) (c : Nat) : (a.writeTctr c).matchResults = a.matchResults := rfl
@[simp] theorem Arch.writeTctr_MATCHCTR (a : Arch) (c : Nat) : (a.writeTctr c).MATCHCTR = a.MATCHCTR := rfl
@[simp] theorem Arch.writeOtp_operands (a : Arch) (k : List Byte) (c n : Nat) : (a.writeOtp k c n).operands = a.operands := rfl
@[simp] theorem Arch.writeOtp_matchResults (a : Arch) (k : List Byte) (c n : Nat) : (a.writeOtp k c n).matchResults = a.matchResults := rfl
@[simp] theorem Arch.writeOtp_TCTR (a : Arch) (k : List Byte) (c n : Nat) : (a.writeOtp k c n).TCTR = a.TCTR := rfl
@[simp] theorem Arch.writeOtp_MATCHCTR (a : Arch) (k : List Byte) (c n : Nat) : (a.writeOtp k c n).MATCHCTR = a.MATCHCTR := rfl
@[simp] theorem Arch.writeVres_operands (a : Arch) (w : List (Nat × Nat)) (m : Match) : (a.writeVres w m).operands = a.operands := rfl
@[simp] theorem Arch.writeVres_otpResults (a : Arch) (w : List (Nat × Nat)) (m : Match) : (a.writeVres w m).otpResults = a.otpResults := rfl
@[simp] theorem Arch.writeVres_TCTR (a : Arch) (w : List (Nat × Nat)) (m : Match) : (a.writeVres w m).TCTR = a.TCTR := rfl

/-! ### The model's own fields -/

@[simp] theorem State.accept_arch (s : State) (w : Word) : (s.accept w).arch = s.arch.latch w := rfl
@[simp] theorem State.accept_pending (s : State) (w : Word) : (s.accept w).pending = s.pending := rfl
@[simp] theorem State.accept_resp (s : State) (w : Word) : (s.accept w).resp = s.resp := rfl
@[simp] theorem State.accept_latency (s : State) (w : Word) : (s.accept w).latency = Config.cmdLatency s.accepted := rfl
@[simp] theorem State.accept_accepted (s : State) (w : Word) : (s.accept w).accepted = s.accepted + 1 := rfl
@[simp] theorem State.resetArch_arch (s : State) : (s.resetArch).arch = Arch.reset := rfl
@[simp] theorem State.resetArch_pending (s : State) : (s.resetArch).pending = s.pending := rfl
@[simp] theorem State.resetArch_resp (s : State) : (s.resetArch).resp = s.resp := rfl
@[simp] theorem State.resetArch_latency (s : State) : (s.resetArch).latency = s.latency := rfl
@[simp] theorem State.resetArch_accepted (s : State) : (s.resetArch).accepted = s.accepted := rfl
@[simp] theorem State.respond_arch (s : State) (r : BusResponse) : (s.respond r).arch = s.arch := rfl
@[simp] theorem State.respond_pending (s : State) (r : BusResponse) : (s.respond r).pending = s.pending := rfl
@[simp] theorem State.respond_resp (s : State) (r : BusResponse) : (s.respond r).resp = some r := rfl
@[simp] theorem State.respond_latency (s : State) (r : BusResponse) : (s.respond r).latency = s.latency := rfl
@[simp] theorem State.respond_accepted (s : State) (r : BusResponse) : (s.respond r).accepted = s.accepted := rfl
@[simp] theorem State.advance_arch (s : State) (rest : List HostAction) : (s.advance rest).arch = s.arch := rfl
@[simp] theorem State.advance_pending (s : State) (rest : List HostAction) : (s.advance rest).pending = rest := rfl
@[simp] theorem State.advance_resp (s : State) (rest : List HostAction) : (s.advance rest).resp = s.resp := rfl
@[simp] theorem State.advance_latency (s : State) (rest : List HostAction) : (s.advance rest).latency = s.latency - 1 := rfl
@[simp] theorem State.advance_accepted (s : State) (rest : List HostAction) : (s.advance rest).accepted = s.accepted := rfl
@[simp] theorem State.hostRead_arch (s : State) (off size : Nat) : (s.hostRead off size).arch = s.arch := rfl
@[simp] theorem State.hostRead_pending (s : State) (off size : Nat) : (s.hostRead off size).pending = s.pending := rfl
@[simp] theorem State.hostRead_resp (s : State) (off size : Nat) : (s.hostRead off size).resp = some (s.arch.busRead off size) := rfl
@[simp] theorem State.hostRead_latency (s : State) (off size : Nat) : (s.hostRead off size).latency = s.latency := rfl
@[simp] theorem State.hostRead_accepted (s : State) (off size : Nat) : (s.hostRead off size).accepted = s.accepted := rfl

@[simp] theorem State.complete_ok (s : State) (a : Arch) : s.complete (.ok a) = { s with arch := a.finish .none } := rfl
@[simp] theorem State.complete_error (s : State) (c : ErrCode) :
    s.complete (.error c) = { s with arch := s.arch.finish c } := rfl

end Sys2Proof.Machine
end

