-- ==== Sys2Proof/Laws/Ops.lean ====
section
/-! SUPPORT. One lemma per shared operation: the register map, the bus transactions, and what one step can do. -/

namespace Sys2Proof.Machine

/-! ### The register map (spec/10_state.md R23) -/

theorem regAt_regOffset (r : Reg) : regAt (regOffset r) = some r := by
  cases r with
  | cand k | din k | key k | otpAscii k => revert k; decide
  | _ => decide

theorem regOffset_of_regAt {off : Nat} {r : Reg} (h : regAt off = some r) : regOffset r = off := by
  simpa [regAt] using List.find?_some h

theorem regAt_eq_some {off : Nat} {r : Reg} : regAt off = some r ↔ off = regOffset r :=
  ⟨fun h => (regOffset_of_regAt h).symm, fun h => h ▸ regAt_regOffset r⟩

theorem regOffset_injective {r r' : Reg} (h : regOffset r = regOffset r') : r = r' := by
  have := regAt_regOffset r
  rw [h, regAt_regOffset] at this
  exact (Option.some.inj this).symm

theorem regOffset_lt (r : Reg) : regOffset r < 4096 ∧ regOffset r % 4 = 0 := by
  cases r with
  | cand k | din k | key k | otpAscii k => have := k.isLt; simp only [regOffset]; omega
  | _ => decide

theorem Arch.read_regOffset (a : Arch) (r : Reg) : a.read (regOffset r) = a.readReg r := by
  simp [Arch.read, regAt_regOffset]

/-! ### The window (spec/20_memory.md R71) -/

theorem windowOffset_base (off : Nat) (h : off < 4096) : windowOffset (Config.otpeBase + off) = some off := by
  simp [windowOffset, h]

theorem windowOffset_eq_some {addr off : Nat} :
    windowOffset addr = some off ↔ addr = Config.otpeBase + off ∧ off < 4096 := by
  simp only [windowOffset]
  split <;> simp <;> omega

theorem otpeBase_aligned : Config.otpeBase % 4096 = 0 := Nat.mul_mod_right ..

/-! ### Writes (spec/44_control.md R240, R243; spec/20_memory.md R79) -/

theorem busWrite_ctrl (s : State) (v : Word) : s.busWrite 0x008 v = s.writeCtrl v := rfl

theorem busWrite_status (s : State) (v : Word) :
    s.busWrite 0x00C v = { s with arch := s.arch.writeStatus v } := rfl

/-- While Busy every write but those to CTRL and STATUS is dropped and sets IGNORED (R243). -/
theorem busWrite_busy (s : State) (off : Nat) (v : Word) (hb : s.arch.BUSY = true) (hc : off ≠ 0x008)
    (hs : off ≠ 0x00C) : s.busWrite off v = { s with arch := s.arch.setIgnored } := by
  have h1 : regAt off ≠ some .ctrl := fun h => hc (regAt_eq_some.1 h)
  have h2 : regAt off ≠ some .status := fun h => hs (regAt_eq_some.1 h)
  simp only [State.busWrite, hb, if_true]

/-- While Idle a write to a named register other than CTRL, STATUS and CMD is stored under its field rules. -/
theorem busWrite_idle (s : State) (r : Reg) (v : Word) (hi : s.arch.BUSY = false)
    (hr : r ≠ .ctrl ∧ r ≠ .status ∧ r ≠ .cmd) :
    s.busWrite (regOffset r) v = { s with arch := s.arch.store v r } := by
  obtain ⟨h1, h2, h3⟩ := hr
  simp only [State.busWrite, regAt_regOffset, hi]
  cases r <;> simp_all

/-- While Idle a write to CMD is accepted (R240). -/
theorem busWrite_cmd (s : State) (v : Word) (hi : s.arch.BUSY = false) : s.busWrite 0x010 v = s.accept v := by
  have : regAt 0x010 = some .cmd := regAt_regOffset .cmd
  simp [State.busWrite, this, hi]

/-- Everything a write at an aligned offset can do. -/
theorem busWrite_cases (s : State) (off : Nat) (v : Word) :
    (off = 0x008 ∧ v.getLsbD 1 = true ∧ s.busWrite off v = s.resetArch)
    ∨ (off = 0x008 ∧ v.getLsbD 1 = false
        ∧ s.busWrite off v = { s with arch := s.arch.setIrqEn (v.getLsbD 0) })
    ∨ (off = 0x00C ∧ s.busWrite off v = { s with arch := s.arch.writeStatus v })
    ∨ (off ≠ 0x008 ∧ off ≠ 0x00C ∧ s.arch.BUSY = true
        ∧ s.busWrite off v = { s with arch := s.arch.setIgnored })
    ∨ (off = 0x010 ∧ s.arch.BUSY = false ∧ s.busWrite off v = s.accept v)
    ∨ (s.arch.BUSY = false ∧ ∃ r, off = regOffset r ∧ r ≠ .ctrl ∧ r ≠ .status ∧ r ≠ .cmd
        ∧ s.busWrite off v = { s with arch := s.arch.store v r })
    ∨ (s.arch.BUSY = false ∧ regAt off = none ∧ s.busWrite off v = s) := by
  by_cases hc : off = 0x008
  · subst hc
    cases hv : v.getLsbD 1 with
    | true => exact .inl ⟨rfl, rfl, by rw [busWrite_ctrl, State.writeCtrl, if_pos hv]⟩
    | false =>
      exact .inr (.inl ⟨rfl, rfl, by rw [busWrite_ctrl, State.writeCtrl, if_neg (by rw [hv]; exact Bool.false_ne_true)]⟩)
  by_cases hs : off = 0x00C
  · subst hs
    simp [busWrite_status]
  by_cases hb : s.arch.BUSY = true
  · simp [hc, hs, hb, busWrite_busy s off v hb hc hs]
  simp only [Bool.not_eq_true] at hb
  cases hr : regAt off with
  | none =>
    have : s.busWrite off v = s := by simp [State.busWrite, hr, hb]
    simp [hc, hs, hb, this]
  | some r =>
    have ho := regAt_eq_some.1 hr
    by_cases hm : r = .cmd
    · subst hm
      have ho' : off = 0x010 := ho
      simp [ho', busWrite_cmd s v hb, hb]
    · have h1 : r ≠ .ctrl := fun h => hc (by rw [ho, h]; rfl)
      have h2 : r ≠ .status := fun h => hs (by rw [ho, h]; rfl)
      have := busWrite_idle s r v hb ⟨h1, h2, hm⟩
      rw [← ho] at this
      exact .inr (.inr (.inr (.inr (.inr (.inl ⟨hb, r, ho, h1, h2, hm, this⟩)))))

/-! ### Host actions -/

/-- What a host action does to the registers: nothing, a reset, or one write at an offset of the window. -/
theorem hostStep_arch (s : State) (action : HostAction) (rest : List HostAction) :
    (s.hostStep action rest).arch = s.arch
    ∨ (s.hostStep action rest).arch = Arch.reset
    ∨ ∃ addr size v off, action = .write addr size v ∧ windowOffset addr = some off ∧ busSupported off size = true
        ∧ (s.hostStep action rest).arch = ((s.advance rest).busWrite off v).arch := by
  cases action with
  | resetInput => exact .inr (.inl rfl)
  | read addr size =>
    left
    simp only [State.hostStep]
    split <;> simp
  | poll addr mask value =>
    left
    simp only [State.hostStep]
    split <;> [split; skip] <;> simp
  | write addr size v =>
    cases hw : windowOffset addr with
    | none => left; simp [State.hostStep, hw]
    | some off =>
      by_cases hb : busSupported off size = true
      · exact .inr (.inr ⟨addr, size, v, off, rfl, hw, hb, by simp [State.hostStep, hw, State.hostWrite, hb]⟩)
      · left; simp [State.hostStep, hw, State.hostWrite, hb]

theorem hostStep_write (s : State) (off : Nat) (v : Word) (rest : List HostAction) (h : off < 4096)
    (ha : off % 4 = 0) :
    s.hostStep (.write (Config.otpeBase + off) 4 v) rest
      = ((s.advance rest).busWrite off v).respond { error := false, data := 0 } := by
  simp [State.hostStep, windowOffset_base off h, State.hostWrite, busSupported, ha]

theorem hostStep_read (s : State) (off size : Nat) (rest : List HostAction) (h : off < 4096) :
    s.hostStep (.read (Config.otpeBase + off) size) rest = (s.advance rest).hostRead off size := by
  simp [State.hostStep, windowOffset_base off h]

/-! ### One step -/

theorem nextMove_engine {s : State} {w : Word} :
    s.nextMove = .engine w ↔ s.arch.fsm = .busy w ∧ (s.pending = [] ∨ s.latency = 0) := by
  cases hf : s.arch.fsm <;> cases hp : s.pending <;> simp [State.nextMove, hf, hp]
  split <;> simp_all

theorem nextMove_host {s : State} {action : HostAction} {rest : List HostAction} :
    s.nextMove = .host action rest
      ↔ s.pending = action :: rest ∧ (s.arch.fsm = .idle ∨ s.latency ≠ 0) := by
  cases hf : s.arch.fsm <;> cases hp : s.pending <;> simp [State.nextMove, hf, hp]
  split <;> simp_all

theorem nextMove_waiting {s : State} : s.nextMove = .waiting ↔ s.arch.fsm = .idle ∧ s.pending = [] := by
  cases hf : s.arch.fsm <;> cases hp : s.pending <;> simp [State.nextMove, hf, hp]
  split <;> simp_all

/-- The arms of `exec` are the completion of the pure function `Exec` (spec/44_control.md R241, R247). -/
theorem exec_eq (i : Instr) (s : State) : exec i s = .next (s.complete (s.arch.result i)) := by
  cases i <;> rfl

/-- Everything one step can do. -/
theorem step_cases {s t : State} (h : step s = .next t) :
    (∃ w i, s.nextMove = .engine w ∧ decode w = .ok i ∧ t = s.complete (s.arch.result i))
    ∨ (∃ w e, s.nextMove = .engine w ∧ decode w = .error e ∧ t = s.complete (.error .illegalCmd))
    ∨ (∃ action rest, s.nextMove = .host action rest ∧ t = s.hostStep action rest) := by
  cases hm : s.nextMove with
  | waiting => simp [step, hm] at h
  | host action rest =>
    simp only [step, hm] at h
    exact .inr (.inr ⟨action, rest, rfl, (Host.Outcome.next.inj h).symm⟩)
  | engine w =>
    simp only [step, hm, completion] at h
    cases hd : decode w with
    | ok i =>
      rw [hd] at h
      exact .inl ⟨w, i, rfl, hd, by simpa [exec_eq] using h.symm⟩
    | error e =>
      rw [hd] at h
      exact .inr (.inl ⟨w, e, rfl, hd, (Host.Outcome.next.inj h).symm⟩)

end Sys2Proof.Machine
end

