-- ==== Sys2Proof/Laws/Commands.lean ====
section
/-! SUPPORT. Spec lemmas of the functions under the commands: the configuration checks (spec/60_exceptions.md R276), a
result behind a check, the window loop (spec/43_validate.md R213, R215) and the packing of bytes into words
(spec/20_memory.md R75). -/

namespace Sys2Proof.Machine

theorem digitsLegal_iff (a : Arch) : a.digitsLegal = true ↔ 1 ≤ a.DIGITS ∧ a.DIGITS ≤ 9 := by
  simp [Arch.digitsLegal]

theorem hotpError_none (a : Arch) : a.hotpError = none ↔ (1 ≤ a.DIGITS ∧ a.DIGITS ≤ 9) ∧ a.KEYLEN ≤ 64 := by
  rw [← digitsLegal_iff]
  cases h : a.digitsLegal <;> simp [Arch.hotpError, h]

theorem totpError_none (a : Arch) :
    a.totpError = none ↔ (1 ≤ a.DIGITS ∧ a.DIGITS ≤ 9) ∧ a.TS ≠ 0 ∧ a.KEYLEN ≤ 64 := by
  rw [← digitsLegal_iff]
  cases h : a.digitsLegal <;> by_cases ht : a.TS = 0 <;> simp [Arch.totpError, h, ht]

@[simp] theorem resultUnless_none (a : Arch) : resultUnless none a = .ok a := rfl
@[simp] theorem resultUnless_some (c : ErrCode) (a : Arch) : resultUnless (some c) a = .error c := rfl

theorem resultUnless_ok {e : Option ErrCode} {a b : Arch} : resultUnless e a = .ok b ↔ e = none ∧ b = a := by
  cases e <;> simp [eq_comm]

/-- Once a match is found the loop keeps it. -/
theorem foldl_tryPosition_found (a : Arch) (w : List (Nat × Nat)) (m : Match) (h : m.found = true) :
    w.foldl a.tryPosition m = m := by
  induction w with
  | nil => rfl
  | cons p w ih =>
    have : a.tryPosition m p = m := by simp [Arch.tryPosition, h]
    rw [List.foldl_cons, this, ih]

/-- The window loop ends at the first position whose OTP equals the candidate, and with nothing when there is none. -/
theorem scan_spec (a : Arch) (w : List (Nat × Nat)) :
    (a.scan w = { found := false, idx := 0, ctr := 0 }
        ∧ ∀ p ∈ w, a.candEq (otpStr a.K p.2 a.DIGITS) a.DIGITS = false)
    ∨ ∃ pre p post, w = pre ++ p :: post ∧ a.scan w = { found := true, idx := p.1, ctr := p.2 }
        ∧ a.candEq (otpStr a.K p.2 a.DIGITS) a.DIGITS = true
        ∧ ∀ q ∈ pre, a.candEq (otpStr a.K q.2 a.DIGITS) a.DIGITS = false := by
  induction w with
  | nil => simp [Arch.scan]
  | cons p w ih =>
    cases hp : a.candEq (otpStr a.K p.2 a.DIGITS) a.DIGITS with
    | true =>
      refine .inr ⟨[], p, w, rfl, ?_, hp, by simp⟩
      have : a.tryPosition { found := false, idx := 0, ctr := 0 } p = { found := true, idx := p.1, ctr := p.2 } := by
        simp [Arch.tryPosition, hp]
      rw [Arch.scan, List.foldl_cons, this, foldl_tryPosition_found _ _ _ rfl]
    | false =>
      have : a.scan (p :: w) = a.scan w := by simp [Arch.scan, Arch.tryPosition, hp]
      rw [this]
      rcases ih with ⟨h, hn⟩ | ⟨pre, q, post, rfl, h, hq, hn⟩
      · exact .inl ⟨h, by simp [hp]; simpa using hn⟩
      · exact .inr ⟨p :: pre, q, post, rfl, h, hq, by simp [hp]; simpa using hn⟩

/-- A byte of a packed word is the byte that was packed (R75). -/
theorem packWord_byte (s : List Byte) (k j : Nat) (hj : j < 4) (h : 4 * k + 4 ≤ s.length) :
    (packWord s k).extractLsb' (24 - 8 * j) 8 = s.getD (4 * k + j) 0 := by
  obtain ⟨a, b, c, d, t, ht⟩ : ∃ a b c d t, s.drop (4 * k) = a :: b :: c :: d :: t := by
    have hl : 4 ≤ (s.drop (4 * k)).length := by rw [List.length_drop]; omega
    match s.drop (4 * k), hl with
    | a :: b :: c :: d :: t, _ => exact ⟨a, b, c, d, t, rfl⟩
  have hg : s.getD (4 * k + j) 0 = (s.drop (4 * k)).getD j 0 := by simp [List.getD]
  have hs : slice s (4 * k) (4 * k + 4) = [a, b, c, d] := by simp [slice, ht]
  have ha := a.isLt
  have hb := b.isLt
  have hc := c.isLt
  have hd := d.isLt
  apply BitVec.eq_of_toNat_eq
  rw [hg, ht, packWord, hs]
  interval_cases j <;>
    simp [intBE, BitVec.extractLsb', Nat.shiftRight_eq_div_pow] <;> omega

end Sys2Proof.Machine
end

