-- ==== Sys2Proof/Laws/PerInstr.lean ====
section
/-! SUPPORT. Statements made per command: the word of every command is a legal command word (spec/30_encoding.md R100,
R102). -/

namespace Sys2Proof.Laws.LegalWord

/-- The encoding of a command has RSVD = 0 and a defined OPCODE, and the command is well formed. -/
def Statement (i : Instr) : Prop := (CmdWord.ofWord (encode i)).wellFormed = true ∧ i.wellFormed = true

theorem nop : Statement .nop := by unfold Statement; decide
theorem trunc : Statement .trunc := by unfold Statement; decide
theorem hotpGen : Statement .hotpGen := by unfold Statement; decide
theorem totpGen : Statement .totpGen := by unfold Statement; decide
theorem hotpVal : Statement .hotpVal := by unfold Statement; decide
theorem totpVal : Statement .totpVal := by unfold Statement; decide
theorem zeroize : Statement .zeroize := by unfold Statement; decide

end Sys2Proof.Laws.LegalWord
end

