-- ==== Sys2Proof/Tests/Slice0.lean ====
section
/-! SUPPORT. The model's own tests, and the witnesses of the statements' hypotheses. Expected results are the vectors of
spec/95_test_vectors.md (named by their ids) or the words and tables of the rule that is named. -/

namespace Sys2Proof.Tests

open Sys2Proof Sys2Proof.Machine

/-! ### Small states -/

/-- After reset, with these registers. -/
def stateOf (a : Arch) : State := { State.reset with arch := a }

/-- The reset registers with the key K_RFC of spec/95_test_vectors.md. -/
def rfcKey : Arch :=
  { Arch.reset with
    key := #v[0x31323334, 0x35363738, 0x39303132, 0x33343536, 0x37383930, 0, 0, 0, 0, 0, 0, 0, 0, 0, 0, 0]
    keyLen := 20 }

/-- A command in flight after reset. -/
def inFlight (w : Word) (latency : Nat) (pending : List HostAction) : State :=
  { State.reset with arch := Arch.reset.latch w, latency := latency, pending := pending }

/-- Idle after reset with actions pending. -/
def idleWith (pending : List HostAction) : State := { State.reset with pending := pending }

/-- The registers after a command, for looking at a field or two. -/
def after (i : Instr) (a : Arch) : Arch :=
  match exec i (stateOf a) with
  | .next t => t.arch
  | .fault _ | .refused _ => a

/-! ### Well-formedness smoke tests: each check refuses an ill-formed term -/

theorem test_smoke_reserved : CmdWord.reservedClear { opcode := 0x02, rsvd := 1 } = false := by decide
theorem test_smoke_opcode : CmdWord.opcodeDefined { opcode := 0x06, rsvd := 0 } = false := by decide
theorem test_smoke_word :
    CmdWord.wellFormed { opcode := 0x00, rsvd := 1 } = false ∧ CmdWord.wellFormed { opcode := 0x0E, rsvd := 0 } = false
      ∧ CmdWord.wellFormed { opcode := 0x0F, rsvd := 0 } = true := by decide
theorem test_smoke_action :
    HostAction.wellFormed (.read 2 4) = false ∧ HostAction.wellFormed (.read 4 2) = false
      ∧ HostAction.wellFormed (.write 1 4 0) = false ∧ HostAction.wellFormed (.write 8 1 0) = false
      ∧ HostAction.wellFormed (.poll 6 1 0) = false := by decide
theorem test_smoke_offsets :
    HostOp.wellFormed (.wr 2 0) = false ∧ HostOp.wellFormed (.wr 4096 0) = false
      ∧ HostOp.wellFormed (.rd 3 none) = false ∧ HostOp.wellFormed (.rd 4096 none) = false := by decide
theorem test_smoke_poll :
    HostOp.wellFormed (.poll 2 0 0 0) = false ∧ HostOp.wellFormed (.poll 4096 0 0 0) = false
      ∧ HostOp.wellFormed (.poll 12 0 1 0) = false ∧ HostOp.wellFormed (.poll 12 32 0 0) = false
      ∧ HostOp.wellFormed (.poll 12 0 0 2) = false := by decide
theorem test_smoke_buffers :
    HostOp.wellFormed (.loadKey (List.replicate 65 0)) = false
      ∧ HostOp.wellFormed (.loadCand (List.replicate 17 0)) = false
      ∧ HostOp.wellFormed (.loadDin (List.replicate 19 0)) = false
      ∧ HostOp.wellFormed (.loadDin (List.replicate 21 0)) = false := by decide
theorem test_smoke_values :
    HostOp.wellFormed (.setCtr (2 ^ 64)) = false ∧ HostOp.wellFormed (.setTime (2 ^ 64)) = false
      ∧ HostOp.wellFormed (.setCfg 16 0) = false ∧ HostOp.wellFormed (.setCfg 0 256) = false := by decide

/-! ### Decoding: the words of R102, written out from the encoding table -/

theorem test_decode_nop : decodeTableWord 32 0x00000000 = some .nop := by decide
theorem test_decode_trunc : decodeTableWord 32 0x00000001 = some .trunc := by decide
theorem test_decode_hotpGen : decodeTableWord 32 0x00000002 = some .hotpGen := by decide
theorem test_decode_totpGen : decodeTableWord 32 0x00000003 = some .totpGen := by decide
theorem test_decode_hotpVal : decodeTableWord 32 0x00000004 = some .hotpVal := by decide
theorem test_decode_totpVal : decodeTableWord 32 0x00000005 = some .totpVal := by decide
theorem test_decode_zeroize : decodeTableWord 32 0x0000000F = some .zeroize := by decide

/-- V-ERR-11 to V-ERR-17. -/
theorem test_decode_illegal :
    [0x00000006, 0x0000000E, 0x00000010, 0x000000FF].map decode
        = List.replicate 4 (.error DecodeError.undefinedOpcode)
      ∧ [0x00000100, 0x00000102, 0x80000002].map decode = List.replicate 3 (.error DecodeError.reservedBitsSet) := by
  decide

/-! ### SHA-1 and HMAC -/

/-- The digest `da39…` written as bytes. -/
def hex (s : String) : List Byte := (hexBytes s.toList).getD []

theorem test_sha1_abc : sha1 (asciiBytes "abc".toList) = hex "a9993e364706816aba3e25717850c26c9cd0d89d" := by
  decide +kernel
theorem test_sha1_two_blocks :
    sha1 (asciiBytes "abcdbcdecdefdefgefghfghighijhijkijkljklmklmnlmnomnopnopq".toList)
      = hex "84983e441c3bd26ebaae4aa1f95129e5e54670f1" := by decide +kernel
/-- V-HMAC-2. -/
theorem test_hmac_short_key :
    hmacSha1 (asciiBytes "Jefe".toList) (asciiBytes "what do ya want for nothing?".toList)
      = hex "effcdf6ae5eb2fa2d27416d5f184df9c259a7c79" := by decide +kernel
/-- V-HMAC-3. -/
theorem test_hmac_long_key :
    hmacSha1 (List.replicate 80 0xaa)
        (asciiBytes "Test Using Larger Than Block-Size Key - Hash Key First".toList)
      = hex "aa4ae5e15272d00e95705637ce8a3b55ed402112" := by decide +kernel
/-- V-HD-1: COUNTER_HI is the high half. -/
theorem test_hdigest_high_half : hDigest rfcKey.K (2 ^ 32) = hex "7c9fd37f3b71aad82c508f423de075df9a15fbea" := by
  decide +kernel

/-! ### The commands -/

/-- V-CTL-2: NOP clears an earlier error code. -/
theorem test_nop_clears_error :
    (after .nop { Arch.reset with errCode := .cfgTimestep, done := true }).read 0x00C = 0x00000002 := by decide

/-- V-DT-6: bit 31 is masked off, and the high nibble of byte 19 is ignored. -/
theorem test_trunc_mask :
    (after .trunc { Arch.reset with din := #v[0xDEADBEEF, 0, 0, 0, 0xF0], dinLen := 20 }).read 0x100
      = 0x5EADBEEF := by decide
/-- V-DT-5: the largest offset. -/
theorem test_trunc_offset_15 :
    (after .trunc { Arch.reset with din := #v[0, 0, 0, 0x12, 0x345678FF], dinLen := 20 }).read 0x100
      = 0x12345678 := by decide

/-- V-FMT-10: nine digits with a leading zero. -/
theorem test_hotpGen_leading_zero :
    let t := after .hotpGen { rfcKey with digits := 9, counterLo := 7 }
    [0x00C, 0x104, 0x110, 0x114, 0x118, 0x108].map t.read
      = [0x00000002, 82162583, 0x30383231, 0x36323538, 0x33000000, 9] := by decide +kernel
/-- V-HOTP-7: the empty key. -/
theorem test_hotpGen_empty_key :
    let t := after .hotpGen Arch.reset
    (t.read 0x100, t.read 0x104) = (0x4F977EE2, 328482) := by decide +kernel

/-- The source's RFC 6238 vector for time 20000000000, which needs TIME_HI (V-TOTP-3). -/
theorem test_totpGen_time_hi :
    let t := after .totpGen { rfcKey with digits := 8, timeLo := 0xA817C800, timeHi := 4 }
    [0x120, 0x124, 0x100, 0x104].map t.read = [0x27BC86AA, 0, 0x575783AA, 65353130] := by decide +kernel

/-- V-HVAL-11: the window is cut at 2^64 - 1, and the second position matches. -/
theorem test_hotpVal_cut_window :
    let t := after .hotpVal { rfcKey with counterLo := 0xFFFFFFFE, counterHi := 0xFFFFFFFF,
                                          cand := #v[0x30393434, 0x35310000, 0, 0], candLen := 6 }
    [0x128, 0x130, 0x134].map t.read = [0x00020101, 0xFFFFFFFF, 0xFFFFFFFF] := by decide +kernel
/-- V-HVAL-13: no wrap, and a non-match is no error. -/
theorem test_hotpVal_no_wrap :
    let t := after .hotpVal { rfcKey with counterLo := 0xFFFFFFFF, counterHi := 0xFFFFFFFF, lookahead := 255,
                                          cand := #v[0x37353532, 0x32340000, 0, 0], candLen := 6 }
    [0x00C, 0x128, 0x130].map t.read = [0x00000002, 0x00010000, 0] := by decide +kernel

/-- V-TVAL-6: the next step has MATCH_IDX 2 when the previous is left out. -/
theorem test_totpVal_next_step :
    let t := after .totpVal { rfcKey with timeLo := 29, cand := #v[0x32383730, 0x38320000, 0, 0], candLen := 6 }
    [0x120, 0x128, 0x130].map t.read = [0, 0x00020201, 1] := by decide +kernel
/-- V-TVAL-8: the previous step at the top of time. -/
theorem test_totpVal_previous_step :
    let t := after .totpVal { rfcKey with timeLo := 0xFFFFFFFF, timeHi := 0xFFFFFFFF,
                                          cand := #v[0x38353638, 0x38320000, 0, 0], candLen := 6 }
    [0x120, 0x124, 0x128, 0x130, 0x134].map t.read
      = [0x88888888, 0x08888888, 0x00020101, 0x88888887, 0x08888888] := by decide +kernel

/-- V-CTL-3: ZEROIZE clears the key, the lengths and the results, and keeps CFG, TIME_STEP, COUNTER and TIME. -/
theorem test_zeroize :
    let t := after .zeroize { rfcKey with counterLo := 7, timeHi := 1, candLen := 6, truncVal := 0x4C93CF18,
                                          otpLen := 6, valid := true, matchCtrHi := 1 }
    t.key = Vector.replicate 16 0
      ∧ [0x01C, 0x030, 0x100, 0x108, 0x128, 0x134].map t.read = [0, 0, 0, 0, 0, 0]
      ∧ [0x014, 0x018, 0x020, 0x02C, 0x00C].map t.read = [0x00000306, 0x0000001E, 7, 1, 0x00000002] := by decide

/-- V-ERR-4, V-ERR-6, V-ERR-7, V-ERR-8 and V-ERR-10: the first cause gives the code. -/
theorem test_error_priority :
    (after .hotpGen { Arch.reset with digits := 15, keyLen := 70 }).read 0x00C = 0x00000206
      ∧ (after .totpGen { Arch.reset with digits := 0, timeStep := 0 }).read 0x00C = 0x00000206
      ∧ (after .totpVal { Arch.reset with timeStep := 0, keyLen := 65 }).read 0x00C = 0x00000306
      ∧ (after .hotpVal { Arch.reset with keyLen := 65 }).read 0x00C = 0x00000406
      ∧ (after .trunc { Arch.reset with digits := 15, timeStep := 0, dinLen := 19 }).read 0x00C = 0x00000506 := by
  decide

/-! ### The bus -/

/-- V-BUS-1, V-BUS-3, V-BUS-4 and R49: reads after reset. -/
theorem test_reset_reads :
    [0x000, 0x004, 0x010, 0x014, 0x018, 0x038, 0x200, 0xFFC].map Arch.reset.read
      = [0x4F545045, 0x00010000, 0, 0x00000306, 0x0000001E, 0, 0, 0] := by decide
/-- V-BUS-2: KEY0 is write-only. -/
theorem test_key_write_only :
    let t := (stateOf Arch.reset).busWrite 0x080 0x31323334
    (t.arch.key[0], t.arch.read 0x080) = (0x31323334, 0) := by decide
/-- V-BUS-7: CFG's reserved bits read 0, and DIGITS = 15 is stored. -/
theorem test_cfg_reserved_bits : ((stateOf Arch.reset).busWrite 0x014 0xFFFFFFFF).arch.read 0x014 = 0x0000FF0F := by
  decide
/-- V-BUS-5, V-BUS-8: a reserved offset and a read-only register ignore a write while Idle. -/
theorem test_ignored_while_idle :
    (stateOf Arch.reset).busWrite 0x038 0xFFFFFFFF = stateOf Arch.reset
      ∧ (stateOf Arch.reset).busWrite 0x100 0x12345678 = stateOf Arch.reset := by decide
/-- V-BUS-6: BusError on a narrow access, and on a 32-bit access at offset 0x002. -/
theorem test_bus_error :
    Arch.reset.busRead 0x000 2 = { error := true, data := 0 }
      ∧ Arch.reset.busRead 0x002 4 = { error := true, data := 0 }
      ∧ (stateOf Arch.reset).hostWrite 0x014 1 0xFFFFFFFF
          = { State.reset with resp := some { error := true, data := 0 } } := by decide
/-- V-CTL-8, V-CTL-9 and V-CTL-10: writes while Busy. -/
theorem test_busy_writes :
    let s := inFlight 0x00000002 0 []
    let t := s.busWrite 0x020 5
    (t.arch.counterLo, t.arch.read 0x00C) = (0, 0x00000009)
      ∧ (s.busWrite 0x010 0x00000003).arch.fsm = .busy 0x00000002
      ∧ (t.busWrite 0x00C 0x00000008).arch.read 0x00C = 0x00000001 := by decide
/-- V-CTL-5: soft reset while Busy. -/
theorem test_soft_reset : ((inFlight 0x00000002 3 []).busWrite 0x008 0x00000002).arch = Arch.reset := by decide
/-- V-CTL-6 and V-CTL-7: the interrupt rises with IRQ_EN while DONE is 1, and the acknowledgement clears it. -/
theorem test_irq :
    let s := stateOf { Arch.reset with done := true }
    let t := s.busWrite 0x008 0x00000001
    (s.arch.irq, t.arch.irq, (t.busWrite 0x00C 0x00000002).arch.irq) = (false, true, false) := by decide

/-- A whole step with a bus address: the first write of program P7's WR CMD, 0x00000100. -/
theorem test_step_accepts_illegal_word :
    ∃ t, step (idleWith [.write (Config.otpeBase + 0x010) 4 0x00000100]) = .next t
      ∧ t.arch.fsm = .busy 0x00000100 ∧ t.arch.read 0x00C = 0x00000001 :=
  ⟨_, rfl, by
    rw [hostStep_write _ _ _ _ (by decide) (by decide)]
    decide⟩

/-! ### The host-sequence notation (R107) -/

/-- The lines of program P1. -/
theorem test_parse_lines :
    ["WR CTRL, 0x00000001", "LOADKEY \"1234\"", "SETCTR 5", "CMD HOTP_GEN", "WAIT", "RD OTP_ASCII0 -> 0x32353436",
        "POLL STATUS.DONE == 1", "ACK", "SETCFG 8, 3"].map parseLine
      = [some (.wr 0x008 0x00000001), some (.loadKey [0x31, 0x32, 0x33, 0x34]), some (.setCtr 5),
          some (.cmd .hotpGen), some .wait, some (.rd 0x110 (some 0x32353436)), some (.poll 0x00C 1 1 1), some .ack,
          some (.setCfg 8 3)] := by decide +kernel
/-- Ill-formed lines are refused. -/
theorem test_parse_refused :
    ["CMD FLY", "WR CTRL", "SETCFG 16, 3", "LOADDIN 0x00", "WR NOWHERE, 1"].map parseLine
      = List.replicate 5 none := by decide +kernel
/-- Program P2's LOADCAND "359152", and program P7's CMD ZEROIZE and ACK. -/
theorem test_expand :
    expandOp (.loadCand (asciiBytes "359152".toList))
        = [writeAt 0x040 0x33353931, writeAt 0x044 0x35320000, writeAt 0x030 0x00000006]
      ∧ expandOp (.cmd .zeroize) = [writeAt 0x010 0x0000000F] ∧ expandOp .ack = [writeAt 0x00C 0x00000002] :=
  ⟨rfl, rfl, rfl⟩
/-- Program P3's SETCFG 8, 3 and SETTIME 1111111109. -/
theorem test_expand_values :
    expandOp (.setCfg 8 3) = [writeAt 0x014 0x00000308]
      ∧ expandOp (.setTime 1111111109) = [writeAt 0x028 0x423A35C5, writeAt 0x02C 0x00000000] := ⟨rfl, rfl⟩

/-! ### Witnesses: states and operands that meet the statements' hypotheses -/

/-- The bus address of an offset. -/
def busAt (off : Nat) : Nat := Config.otpeBase + off

/-- `IllegalWordCompletesWithIllegalCmd`: both kinds of illegal word, at the edges of the fields, and both ways of the
engine's turn. -/
theorem witness_illegal_word :
    (∀ n ∈ [0x00000100, 0x80000002, 0x00000006, 0x0000000E, 0x00000010, 0x000000FF],
      (BitVec.ofNat 32 n).toNat / 2 ^ 8 ≠ 0
        ∨ (BitVec.ofNat 32 n).toNat % 2 ^ 8 ∉ [0x00, 0x01, 0x02, 0x03, 0x04, 0x05, 0x0F])
    ∧ (∀ w, (inFlight w 3 []).arch.fsm = .busy w ∧ (inFlight w 3 []).pending = [])
    ∧ (∀ w, (inFlight w 0 [.resetInput]).arch.fsm = .busy w ∧ (inFlight w 0 [.resetInput]).latency = 0) :=
  ⟨by decide, fun _ => ⟨rfl, rfl⟩, fun _ => ⟨rfl, rfl⟩⟩

/-- `BothResetSourcesGiveResetValues`, `StepTakesTheNextHostAction`: both sources, while Idle and while Busy. -/
theorem witness_reset_sources :
    (idleWith [.resetInput]).pending = .resetInput :: [] ∧ (idleWith [.resetInput]).hostTurn
      ∧ (inFlight 2 1 [.write (busAt 0x008) 4 2]).pending = .write (Config.otpeBase + 0x008) 4 2 :: []
      ∧ (inFlight 2 1 [.write (busAt 0x008) 4 2]).hostTurn ∧ (2#32).getLsbD 1 = true := by
  refine ⟨rfl, .inl rfl, rfl, .inr ?_, rfl⟩
  decide

/-- `CommandWriteWhileIdleIsAccepted`: a legal and an illegal word. -/
theorem witness_command_write (v : Word) :
    (idleWith [.write (busAt 0x010) 4 v]).arch.fsm = .idle
      ∧ (idleWith [.write (busAt 0x010) 4 v]).pending = .write (Config.otpeBase + 0x010) 4 v :: [] := ⟨rfl, rfl⟩

/-- `StepRunsTheDecodedCommand`: every command, with nothing pending and with an action that comes after it. -/
theorem witness_engine_turn (i : Instr) :
    decode (encode i) = .ok i
      ∧ (inFlight (encode i) 1 []).arch.fsm = .busy (encode i) ∧ (inFlight (encode i) 1 []).pending = []
      ∧ (inFlight (encode i) 0 [.resetInput]).arch.fsm = .busy (encode i)
      ∧ (inFlight (encode i) 0 [.resetInput]).latency = 0 := by
  cases i <;> exact ⟨rfl, rfl, rfl, rfl, rfl⟩

/-- `ErrorCompletionWritesOnlyStatus`: each of the five codes is the code of some completion. -/
theorem witness_error_codes :
    (∃ t, completion 0x00000006 (stateOf Arch.reset) = .next t ∧ t.arch.errCode = .illegalCmd)
    ∧ (∃ t, completion 0x00000002 (stateOf { Arch.reset with digits := 10 }) = .next t ∧ t.arch.errCode = .cfgDigits)
    ∧ (∃ t, completion 0x00000003 (stateOf { Arch.reset with timeStep := 0 }) = .next t
        ∧ t.arch.errCode = .cfgTimestep)
    ∧ (∃ t, completion 0x00000004 (stateOf { Arch.reset with keyLen := 65 }) = .next t ∧ t.arch.errCode = .cfgKeylen)
    ∧ ∃ t, completion 0x00000001 (stateOf { Arch.reset with dinLen := 19 }) = .next t
        ∧ t.arch.errCode = .inputLength :=
  ⟨⟨_, rfl, rfl⟩, ⟨_, rfl, rfl⟩, ⟨_, rfl, rfl⟩, ⟨_, rfl, rfl⟩, ⟨_, rfl, rfl⟩⟩

/-- `BusyEngineBecomesIdle`, `CommandCompletesOnOperandsAtAcceptance`: a command in flight with two host writes before
its completion, one of them dropped, and none that resets. -/
theorem witness_in_flight :
    let s := inFlight 0x00000002 2 [.write (busAt 0x020) 4 5, .write (busAt 0x008) 4 1]
    s.arch.fsm = .busy 0x00000002 ∧ s.noResetPending := by
  refine ⟨rfl, fun action h => ?_⟩
  rcases List.mem_cons.1 h with rfl | h
  · refine ⟨nofun, ?_⟩
    rintro _ _ _ ⟨⟩ hw
    rfl
  · rcases List.mem_cons.1 h with rfl | h
    · refine ⟨nofun, ?_⟩
      rintro _ _ _ ⟨⟩ hw
      rfl
    · cases h

/-- `BusyStepsFreezeOperandsAndResults`: a write while Busy that leaves the engine Busy. -/
theorem witness_busy_step :
    ∃ t, step (inFlight 0x00000002 1 [.write (busAt 0x020) 4 5]) = .next t ∧ t.arch.fsm ≠ .idle := by
  refine ⟨_, rfl, ?_⟩
  rw [busAt, hostStep_write _ _ _ _ (by decide) (by decide)]
  decide

/-- `WriteRacingACompletionHasBothOutcomes`: program P6. -/
theorem witness_race :
    let s := inFlight (encode .hotpGen) 0 [.write (busAt 0x020) 4 5]
    s.arch.fsm = .busy (encode .hotpGen) ∧ s.arch.ignored = false
      ∧ s.pending = [.write (Config.otpeBase + 0x020) 4 5] := ⟨rfl, rfl, rfl⟩

/-- `StepKeepsInvariant`: a command in flight meets the invariant, and its completion is a step. -/
theorem witness_invariant :
    (inFlight 0x0000000F 0 []).arch.Inv ∧ ∃ t, step (inFlight 0x0000000F 0 []) = .next t :=
  ⟨by constructor <;> decide, _, rfl⟩

/-- `TruncExtractsThirtyOneBits`, `TruncatedValueRange`: the length 20 and its neighbours. -/
theorem witness_trunc :
    (stateOf { Arch.reset with dinLen := 20 }).arch.dinLen = 20
      ∧ (∀ n ∈ [0, 19, 21, 255], (stateOf { Arch.reset with dinLen := BitVec.ofNat 8 n }).arch.dinLen ≠ 20)
      ∧ (List.replicate 20 (0xFF : Byte)).length = 20 := by decide

/-- `DecimalStringIsPaddedAndReadsBack`: both ends of the number of digits, with the least and the largest value. -/
theorem witness_decimal :
    ∀ p ∈ [(1, 0), (1, 9), (9, 0), (9, 999999999)], 1 ≤ p.1 ∧ p.1 ≤ 9 ∧ p.2 < 10 ^ p.1 := by decide

/-- `HotpGenWritesTheOtp`, `HotpValFindsTheFirstMatch`: legal operands at both ends, and each illegal case at its
edge. -/
theorem witness_hotp_operands :
    ({ Arch.reset with digits := 1, keyLen := 0 } : Arch).hotpLegal
      ∧ ({ Arch.reset with digits := 9, keyLen := 64 } : Arch).hotpLegal
      ∧ ¬ (1 ≤ ({ Arch.reset with digits := 0 } : Arch).DIGITS ∧ ({ Arch.reset with digits := 0 } : Arch).DIGITS ≤ 9)
      ∧ ¬ (1 ≤ ({ Arch.reset with digits := 10 } : Arch).DIGITS
          ∧ ({ Arch.reset with digits := 10 } : Arch).DIGITS ≤ 9)
      ∧ 64 < ({ Arch.reset with digits := 9, keyLen := 65 } : Arch).KEYLEN
      ∧ ({ Arch.reset with digits := 9, keyLen := 65 } : Arch).DIGITS = 9 := by decide

/-- `TotpGenWritesCounterAndOtp`, `TotpValChecksCurrentPreviousNext`: legal operands with the least and the largest
TIME_STEP, TIME_STEP = 0, and KEY_LEN = 65 with a legal TIME_STEP. -/
theorem witness_totp_operands :
    ({ Arch.reset with timeStep := 1, digits := 1 } : Arch).totpLegal
      ∧ ({ Arch.reset with timeStep := 0xFFFFFFFF, digits := 9, keyLen := 64 } : Arch).totpLegal
      ∧ ({ Arch.reset with timeStep := 0 } : Arch).TS = 0 ∧ ({ Arch.reset with timeStep := 0 } : Arch).DIGITS = 6
      ∧ ({ Arch.reset with keyLen := 65 } : Arch).TS ≠ 0 ∧ 64 < ({ Arch.reset with keyLen := 65 } : Arch).KEYLEN := by
  decide

/-- `GenerationDependsOnOperandsOnly`: two different states with the same operands. -/
theorem witness_same_operands :
    let s := stateOf rfcKey
    let s' := stateOf { rfcKey with truncVal := 5, done := true, irqEn := true, valid := true }
    s ≠ s' ∧ s.arch.operands = s'.arch.operands ∧ (∃ t, exec .hotpGen s = .next t) ∧ (∃ t, exec .hotpGen s' = .next t)
      ∧ (∃ t, exec .totpGen s = .next t) ∧ ∃ t, exec .totpGen s' = .next t :=
  ⟨by decide, rfl, ⟨_, rfl⟩, ⟨_, rfl⟩, ⟨_, rfl⟩, ⟨_, rfl⟩⟩

/-- `KeyBytesPastTheLengthAreIgnored`: V-HOTP-10, a key buffer with other bytes from index 20 on. -/
theorem witness_key_bytes :
    let key' : Vector Word 16 := #v[0x31323334, 0x35363738, 0x39303132, 0x33343536, 0x37383930, 0xAAAAAAAA, 0xAAAAAAAA,
      0xAAAAAAAA, 0, 0, 0, 0, 0, 0, 0, 0]
    key' ≠ rfcKey.key ∧ (∀ j < rfcKey.KEYLEN, bufByte key'.toList j = bufByte rfcKey.key.toList j)
      ∧ (∃ t, exec .hotpGen (stateOf rfcKey) = .next t)
      ∧ ∃ t, exec .hotpGen (stateOf { rfcKey with key := key' }) = .next t :=
  ⟨by decide, by decide, ⟨_, rfl⟩, ⟨_, rfl⟩⟩

/-- `CandidateEqualityIsByteEquality`: expected strings of 1 and of 9 bytes, and two buffers that differ from byte 9
on. -/
theorem witness_candidate :
    (decimal 4 1).length = 1 ∧ (decimal 284755224 9).length = 9
      ∧ ∀ j ≤ 8, bufByte (#v[0x30393434, 0x35310000, 0x00AABBCC, 5] : Vector Word 4).toList j
          = ({ Arch.reset with cand := #v[0x30393434, 0x35310000, 0, 0] } : Arch).candByte j := by decide

/-- `HotpWindowIsForwardAndCut`, `TotpWindowIsCurrentPreviousNext`: empty, full and cut windows, and the ends of time. -/
theorem witness_windows :
    (∀ p ∈ [(0, 0), (0, 255), (2 ^ 64 - 2, 3), (2 ^ 64 - 1, 255)], p.1 < 2 ^ 64 ∧ p.2 ≤ 255)
      ∧ (∀ p ∈ [(0, 1), (29, 30), (30, 30), (2 ^ 64 - 1, 2 ^ 32 - 1)], p.1 < 2 ^ 64 ∧ 0 < p.2 ∧ p.2 < 2 ^ 32)
      ∧ hotpWindow (2 ^ 64 - 2) 3 = [(0, 2 ^ 64 - 2), (1, 2 ^ 64 - 1)] ∧ hotpWindow 5 0 = []
      ∧ totpWindow 29 30 = [(0, 0), (2, 1)] ∧ totpWindow 30 30 = [(0, 1), (1, 0), (2, 2)]
      ∧ totpWindow (2 ^ 64 - 1) 30 = [(0, 0x0888888888888888), (1, 0x0888888888888887)] := by decide

/-- `GeneratedOtpValidates`: V-HOTP-7's OTP "328482", loaded as the candidate. -/
theorem witness_round_trip :
    let s := stateOf Arch.reset
    let u := stateOf { Arch.reset with cand := #v[0x33323834, 0x38320000, 0, 0], candLen := 6 }
    (∃ t, exec .hotpGen s = .next t)
      ∧ (after .hotpGen Arch.reset).errCode = .none
      ∧ u.arch.K = s.arch.K ∧ u.arch.COUNTER64 = s.arch.COUNTER64 ∧ u.arch.DIGITS = s.arch.DIGITS
      ∧ 1 ≤ u.arch.LOOKAHEAD ∧ u.arch.CANDLEN = (after .hotpGen Arch.reset).otpLen.toNat
      ∧ ∀ j < 6, u.arch.candByte j = (after .hotpGen Arch.reset).otpAsciiBytes.getD j 0 :=
  ⟨⟨_, rfl⟩, by decide +kernel⟩

/-- One digit, a window of one counter at 0, the candidate "4", and time 0. -/
def oneDigit (a : Arch) : State :=
  stateOf { a with digits := 1, lookahead := 1, cand := #v[0x34000000, 0, 0, 0], candLen := 1 }

/-- The one-byte key 0x0A: like K_RFC it gives "4" at counter 0, and another digit than "4" at counter 1. -/
def shortKey : Arch := { Arch.reset with key := rfcKey.key.set 0 0x0A000000, keyLen := 1 }

/-- `ValidationRevealsOnlyMatches`: two keys under which the same counters of both windows match, counter 0 among
them. -/
theorem witness_window_matches :
    let s := oneDigit rfcKey
    let s' := oneDigit shortKey
    s.arch.K ≠ s'.arch.K ∧ s.arch.matchesAt 0 ∧ s.arch.digits = s'.arch.digits
      ∧ s.arch.lookahead = s'.arch.lookahead ∧ s.arch.timeStep = s'.arch.timeStep
      ∧ s.arch.COUNTER64 = s'.arch.COUNTER64 ∧ s.arch.TIME64 = s'.arch.TIME64 ∧ s.arch.KEYLEN ≤ 64
      ∧ s'.arch.KEYLEN ≤ 64 ∧ s.arch.sameResults s'.arch
      ∧ (∀ c, s.arch.COUNTER64 ≤ c → c < s.arch.COUNTER64 + s.arch.LOOKAHEAD → c ≤ 2 ^ 64 - 1 →
          (s.arch.matchesAt c ↔ s'.arch.matchesAt c))
      ∧ (∀ p ∈ totpWindow s.arch.TIME64 s.arch.TS, (s.arch.matchesAt p.2 ↔ s'.arch.matchesAt p.2))
      ∧ (∃ t, exec .hotpVal s = .next t) ∧ (∃ t, exec .hotpVal s' = .next t)
      ∧ (∃ t, exec .totpVal s = .next t) ∧ ∃ t, exec .totpVal s' = .next t := by
  have h : (oneDigit rfcKey).arch.matchesAt 0 ∧ (oneDigit shortKey).arch.matchesAt 0 := by decide +kernel
  have h1 : ∀ p ∈ totpWindow (oneDigit rfcKey).arch.TIME64 (oneDigit rfcKey).arch.TS,
      ((oneDigit rfcKey).arch.matchesAt p.2 ↔ (oneDigit shortKey).arch.matchesAt p.2) := by decide +kernel
  refine ⟨by decide, h.1, rfl, rfl, rfl, rfl, rfl, by decide, by decide, ⟨rfl, rfl, rfl⟩, fun c _ hc _ => ?_, h1,
    ⟨_, rfl⟩, ⟨_, rfl⟩, ⟨_, rfl⟩, ⟨_, rfl⟩⟩
  have hw : (oneDigit rfcKey).arch.COUNTER64 + (oneDigit rfcKey).arch.LOOKAHEAD = 1 := by decide
  obtain rfl : c = 0 := by omega
  exact ⟨fun _ => h.2, fun _ => h.1⟩

/-- `ErrorCodeIsTheFirstCause`, `CommandsKeepOperandsAndControl`, `CommandsWriteOnlyTheirRegisters`: every command
answers a next state, and COUNTER_LO is written by none. -/
theorem witness_exec (i : Instr) : (∃ t, exec i State.reset = .next t) ∧ 0x020 ∉ writtenOffsets i := by
  cases i <;> exact ⟨⟨_, rfl⟩, by decide⟩

/-- `Sha1ScheduleRecurrence`, `Sha1PaddingIsLeast`, `HmacLengthsAndLongKeys`, `CounterBytesAreBigEndian`,
`TotpCounterIsFloorAndFits`, `PackedWordsGiveTheBytesBack`: lengths and numbers at the ends of their ranges. -/
theorem witness_hash_operands :
    (List.replicate 64 (0xFF : Byte)).length = 64
      ∧ (∀ n ∈ [0, 55, 56, 63, 64], 8 * (List.replicate n (0 : Byte)).length < 2 ^ 64)
      ∧ 64 < (List.replicate 65 (0 : Byte)).length ∧ (0 : Nat) < 2 ^ 64 ∧ 2 ^ 64 - 1 < 2 ^ 64
      ∧ (0 < 1 ∧ (1 : Nat) < 2 ^ 32) ∧ (List.replicate 20 (0xFF : Byte)).length = 20 := by decide

/-- `ReadsHaveNoSideEffects`: two reads of one offset, while Idle and while Busy for two more steps. -/
theorem witness_reads (off size : Nat) :
    let actions : List HostAction := [.read (busAt off) size, .read (busAt off) size]
    (idleWith actions).pending = .read (Config.otpeBase + off) size :: .read (Config.otpeBase + off) size :: []
      ∧ (idleWith actions).arch.fsm = .idle ∧ (inFlight 2 2 actions).pending = actions
      ∧ 2 ≤ (inFlight 2 2 actions).latency := ⟨rfl, rfl, rfl, Nat.le_refl 2⟩

/-- `UnsupportedAccessGetsBusError`: a misaligned access at the window's end, and a narrow one. -/
theorem witness_unsupported :
    (4095 < 4096 ∧ 4095 % 4 ≠ 0) ∧ (0 < 4096 ∧ (2 : Nat) ≠ 4)
      ∧ (idleWith [.write (busAt 4095) 4 7]).pending = .write (Config.otpeBase + 4095) 4 7 :: []
      ∧ (idleWith [.read (busAt 0) 2]).pending = .read (Config.otpeBase + 0) 2 :: []
      ∧ (idleWith [.read (busAt 0) 2]).hostTurn :=
  ⟨by decide, by decide, rfl, rfl, .inl rfl⟩

/-- `WritesWhileBusyAreDropped`, `ReservedAndReadOnlyIgnoreWrites`: Busy, with a read or a write next, at CTRL, at STATUS, at an
operand, at a read-only register and at the last reserved offset. -/
theorem witness_busy_access :
    (∀ off ∈ [0x008, 0x00C, 0x020, 0x100, 0xFFC], off < 4096 ∧ off % 4 = 0)
      ∧ reservedOffset 0x038 ∧ reservedOffset 0xFFC ∧ 0x100 ∈ readOnlyOffsets
      ∧ ∀ off v, (inFlight 2 1 [.read (busAt off) 4]).arch.BUSY = true
          ∧ (inFlight 2 1 [.read (busAt off) 4]).latency ≠ 0
          ∧ (inFlight 2 1 [.write (busAt off) 4 v]).arch.BUSY = true
          ∧ (inFlight 2 1 [.write (busAt off) 4 v]).latency ≠ 0 ∧ (inFlight 2 1 [.write (busAt off) 4 v]).hostTurn
          ∧ (inFlight 2 1 [.read (busAt off) 4]).pending = .read (Config.otpeBase + off) 4 :: []
          ∧ (inFlight 2 1 [.write (busAt off) 4 v]).pending = .write (Config.otpeBase + off) 4 v :: [] :=
  ⟨by decide, .inl rfl, by simp [reservedOffset], by decide,
    fun _ _ => ⟨rfl, Nat.one_ne_zero, rfl, Nat.one_ne_zero, .inr Nat.one_ne_zero, rfl, rfl⟩⟩

/-- `CtrlWriteSetsIrqEnOrResets`, `StatusFieldsAndWriteOneToClear`, `OperandWritesReadBack`,
`KeyRegistersAreWriteOnly`, `ReservedAndReadOnlyIgnoreWrites`: a write next while Idle, at the first and the last offset
of each kind. -/
theorem witness_idle_write (off : Nat) (v : Word) :
    (idleWith [.write (busAt off) 4 v]).arch.fsm = .idle ∧ (idleWith [.write (busAt off) 4 v]).hostTurn
      ∧ (idleWith [.write (busAt off) 4 v]).pending = .write (Config.otpeBase + off) 4 v :: []
      ∧ (0x014, 0x0000FF0F) ∈ readBackMasks ∧ (0x060, 0xFFFFFFFF) ∈ readBackMasks
      ∧ 0x000 ∈ readOnlyOffsets ∧ 0x134 ∈ readOnlyOffsets ∧ reservedOffset 0x138
      ∧ (0x080 + 4 * (15 : Fin 16).val = 0x0BC) :=
  ⟨rfl, .inl rfl, rfl, by decide, by decide, by decide, by decide, by simp [reservedOffset], rfl⟩

/-- `AddressesOutsideTheWindowDoNotReach`: the first address above the window. -/
theorem witness_outside :
    Config.otpeBase + 4096 ≤ busAt 4096
      ∧ (idleWith [.read (busAt 4096) 4]).pending = .read (Config.otpeBase + 4096) 4 :: []
      ∧ (idleWith [.read (busAt 4096) 4]).hostTurn := ⟨Nat.le_refl _, rfl, .inl rfl⟩

/-- `PollingBusyTerminates`: WAIT while a command is in flight, with latency 0 and 3. -/
theorem witness_polling (n : Nat) :
    (inFlight 0x0000000F n (expandOp .wait)).arch.fsm = .busy 0x0000000F
      ∧ (inFlight 0x0000000F n (expandOp .wait)).pending = expandOp .wait ++ [] := ⟨rfl, rfl⟩

/-- `LoadKeyLoadsTheKey`: keys of 0 and of 64 bytes. -/
theorem witness_load_key :
    (HostOp.loadKey []).wellFormed = true ∧ (HostOp.loadKey (List.replicate 64 0xFF)).wellFormed = true
      ∧ ∀ key, (idleWith (expandOp (.loadKey key))).arch.fsm = .idle
          ∧ (idleWith (expandOp (.loadKey key) ++ [])).pending = expandOp (.loadKey key) ++ [] :=
  ⟨by decide, by decide, fun _ => ⟨rfl, rfl⟩⟩

/-- `OperandWritesSetTheViews`: the first and the last operand register, K at both ends of KEYLEN, and what the views
are after a write of the candidate's second word (R75, R103). -/
theorem witness_views :
    0x014 ∈ operandOffsets ∧ 0x0BC ∈ operandOffsets
      ∧ (∀ off v, (idleWith [.write (busAt off) 4 v]).arch.fsm = .idle
          ∧ (idleWith [.write (busAt off) 4 v]).pending = .write (Config.otpeBase + off) 4 v :: [])
      ∧ (Arch.reset.KEYLEN ≤ 64 ∧ ({ Arch.reset with keyLen := 64 } : Arch).KEYLEN ≤ 64)
      ∧ (Arch.reset.views.afterWrite 0x044 0x35320000).cand
          = [0, 0, 0, 0, 0x35, 0x32, 0, 0, 0, 0, 0, 0, 0, 0, 0, 0] :=
  ⟨by decide, by decide, fun _ _ => ⟨rfl, rfl⟩, by decide, by decide⟩

/-- `SetCounterAndTimeWriteThePairs`: the largest value. -/
theorem witness_set_counter :
    2 ^ 64 - 1 < 2 ^ 64 ∧ (idleWith (expandOp (.setCtr (2 ^ 64 - 1)) ++ [])).arch.fsm = .idle
      ∧ (idleWith (expandOp (.setCtr (2 ^ 64 - 1)) ++ [])).pending = expandOp (.setCtr (2 ^ 64 - 1)) ++ []
      ∧ (idleWith (expandOp (.setTime (2 ^ 64 - 1)) ++ [])).pending = expandOp (.setTime (2 ^ 64 - 1)) ++ [] :=
  ⟨by decide, rfl, rfl, rfl⟩

end Sys2Proof.Tests
end

section
/-! The bits of CTRL and STATUS as they are read, and the interrupt output they give (spec/10_state.md R24, R25, R46). -/

namespace Sys2Proof.Machine

/-- CTRL holds IRQ_EN in bit 0 and nothing else (R24). -/
theorem Arch.ctrlWord_getLsbD (a : Arch) (i : Nat) : a.ctrlWord.getLsbD i = (a.irqEn && decide (i = 0)) :=
  flagBit_getLsbD a.irqEn 0 i (by decide)

/-- ERR_CODE stands in bits 15:8 of STATUS, so it leaves the flags below it alone (R25). -/
theorem ErrCode.field_getLsbD_low (c : ErrCode) (i : Nat) (h : i < 8) :
    (BitVec.ofNat 32 (2 ^ 8 * c.toNat)).getLsbD i = false := by
  simp only [BitVec.getLsbD_ofNat, Nat.testBit_two_pow_mul, Nat.not_le.mpr h, decide_false, Bool.false_and,
    Bool.and_false]

/-- The low byte of STATUS: BUSY, DONE, ERR and IGNORED in bits 0 to 3 (R25). -/
theorem Arch.statusWord_getLsbD_low (a : Arch) (i : Nat) (h : i < 8) :
    a.statusWord.getLsbD i = (a.BUSY && decide (i = 0) || a.done && decide (i = 1) || a.ERR && decide (i = 2)
      || a.ignored && decide (i = 3)) := by
  simp only [Arch.statusWord, BitVec.getLsbD_or, flagBit_getLsbD _ _ i (by decide : 0 < 32),
    flagBit_getLsbD _ _ i (by decide : 1 < 32), flagBit_getLsbD _ _ i (by decide : 2 < 32),
    flagBit_getLsbD _ _ i (by decide : 3 < 32), ErrCode.field_getLsbD_low _ i h, Bool.or_false]

/-- IRQ_EN as it is read at CTRL's offset. -/
theorem Arch.read_ctrl_irqEn (a : Arch) : (a.read 0x008).getLsbD 0 = a.irqEn := by
  have hread : a.read 0x008 = a.ctrlWord := a.read_regOffset .ctrl
  rw [hread, Arch.ctrlWord_getLsbD]
  simp

/-- DONE as it is read at STATUS's offset. -/
theorem Arch.read_status_done (a : Arch) : (a.read 0x00C).getLsbD 1 = a.done := by
  have hread : a.read 0x00C = a.statusWord := a.read_regOffset .status
  rw [hread, Arch.statusWord_getLsbD_low a 1 (by decide)]
  simp

/-- Settles O46: the two bits read back the fields irq is made of, and IRQ_EN is 0 after reset. -/
theorem irqIsEnableAndDone : Obligations.IrqIsEnableAndDone := by
  refine ⟨fun a => ?_, rfl⟩
  rw [Arch.read_ctrl_irqEn, Arch.read_status_done, Arch.irq]

end Sys2Proof.Machine
end

section
/-! Bus transactions in the window, at every size and alignment (spec/20_memory.md R72, R73, R78): what a host step
does on a supported and on an unsupported one, and that a read leaves the registers alone. -/

namespace Sys2Proof.Machine

/-- At the host's turn a step is the next pending action (R81, R305). -/
theorem step_host {s : State} {action : HostAction} {rest : List HostAction} (hp : s.pending = action :: rest)
    (ht : s.hostTurn) : step s = .next (s.hostStep action rest) := by
  rw [step, nextMove_host.2 ⟨hp, ht⟩]

theorem busSupported_iff {off size : Nat} : busSupported off size = true ↔ size = 4 ∧ off % 4 = 0 := by
  simp [busSupported]

theorem busSupported_eq_false {off size : Nat} (h : off % 4 ≠ 0 ∨ size ≠ 4) : busSupported off size = false := by
  rw [← Bool.not_eq_true, busSupported_iff]
  omega

theorem Arch.busRead_supported (a : Arch) {off size : Nat} (h : busSupported off size = true) :
    a.busRead off size = { error := false, data := a.read off } := if_pos h

theorem Arch.busRead_unsupported (a : Arch) {off size : Nat} (h : busSupported off size = false) :
    a.busRead off size = busError := by
  simp [Arch.busRead, h]

theorem State.hostRead_unsupported (s : State) {off size : Nat} (h : busSupported off size = false) :
    s.hostRead off size = s.respond busError := by
  rw [State.hostRead, Arch.busRead_unsupported _ h]

theorem State.hostWrite_unsupported (s : State) {off size : Nat} (v : Word) (h : busSupported off size = false) :
    s.hostWrite off size v = s.respond busError := by
  simp [State.hostWrite, h]

/-- A write of any size and alignment in the window; `hostStep_write` is the supported case. -/
theorem hostStep_write_window (s : State) (off size : Nat) (v : Word) (rest : List HostAction) (h : off < 4096) :
    s.hostStep (.write (Config.otpeBase + off) size v) rest = (s.advance rest).hostWrite off size v := by
  simp [State.hostStep, windowOffset_base off h]

theorem step_read {s : State} {off size : Nat} {rest : List HostAction} (h : off < 4096)
    (hp : s.pending = .read (Config.otpeBase + off) size :: rest) (ht : s.hostTurn) :
    step s = .next ((s.advance rest).hostRead off size) := by
  rw [step_host hp ht, hostStep_read s off size rest h]

/-- An unsupported read or write only takes its place in the order and gives BusError back (R73, R275). -/
theorem hostStep_unsupported (s : State) {off size : Nat} {v : Word} {action : HostAction} (rest : List HostAction)
    (h : off < 4096) (hu : busSupported off size = false)
    (ha : action = .read (Config.otpeBase + off) size ∨ action = .write (Config.otpeBase + off) size v) :
    s.hostStep action rest = (s.advance rest).respond busError := by
  rcases ha with rfl | rfl
  · rw [hostStep_read s off size rest h, State.hostRead_unsupported _ hu]
  · rw [hostStep_write_window s off size v rest h, State.hostWrite_unsupported _ v hu]

/-- Settles O41: the first read keeps the registers, so the second one answers from the same registers. -/
theorem readsHaveNoSideEffects : Obligations.ReadsHaveNoSideEffects := by
  intro s off size rest hoff hp hturn
  have hfirst : s.hostTurn := hturn.imp_right (by omega)
  have hsecond : s.arch.fsm = .idle ∨ s.latency - 1 ≠ 0 := hturn.imp_right (by omega)
  refine ⟨_, _, step_read hoff hp hfirst, step_read hoff rfl hsecond, rfl, rfl, rfl, Option.some_ne_none _,
    fun ha hs => ?_⟩
  exact congrArg some (s.arch.busRead_supported (busSupported_iff.2 ⟨hs, ha⟩))

/-- Settles O42: a read and a write share `hostStep_unsupported`, which builds no new registers. -/
theorem unsupportedAccessGetsBusError : Obligations.UnsupportedAccessGetsBusError := by
  intro s off size v action rest hoff hunsup haction hp hturn
  refine ⟨(s.advance rest).respond busError, ?_, rfl, rfl, rfl⟩
  rw [step_host hp hturn, hostStep_unsupported s rest hoff (busSupported_eq_false hunsup) haction]

end Sys2Proof.Machine
end

section
/-! The words of the SHA-1 schedule by their index (spec/40_hmac_sha1.md R132). -/

namespace Sys2Proof.Machine

@[simp] theorem scheduleExtend_length (n : Nat) (ws : List Word) : (scheduleExtend n ws).length = n + ws.length := by
  induction n generalizing ws with
  | zero => simp [scheduleExtend]
  | succ n ih => rw [scheduleExtend, ih, List.length_cons]; omega

/-- The given words stand behind the `n` new ones. -/
theorem scheduleExtend_getD_given (n i : Nat) (ws : List Word) :
    (scheduleExtend n ws).getD (n + i) 0 = ws.getD i 0 := by
  induction n generalizing ws i with
  | zero => rw [scheduleExtend, Nat.zero_add]
  | succ n ih => rw [scheduleExtend, Nat.succ_add_eq_add_succ, ih, List.getD_cons_succ]

/-- A new word at place `i` is made of the words 3, 8, 14 and 16 places behind it, which are the older ones. -/
theorem scheduleExtend_getD_new (n i : Nat) (ws : List Word) (h : i < n) :
    (scheduleExtend n ws).getD i 0 = rotl 1 ((scheduleExtend n ws).getD (i + 3) 0
      ^^^ (scheduleExtend n ws).getD (i + 8) 0 ^^^ (scheduleExtend n ws).getD (i + 14) 0
      ^^^ (scheduleExtend n ws).getD (i + 16) 0) := by
  induction n generalizing ws with
  | zero => omega
  | succ n ih =>
    rw [scheduleExtend]
    obtain hlt | rfl := Nat.lt_succ_iff_lt_or_eq.1 h
    · exact ih _ hlt
    · have hfirst := scheduleExtend_getD_given i 0
      rw [Nat.add_zero] at hfirst
      simp only [hfirst, scheduleExtend_getD_given, List.getD_cons_zero, List.getD_cons_succ]

@[simp] theorem sha1Schedule_length (b : List Byte) : (sha1Schedule b).length = 80 := by simp [sha1Schedule]

/-- The words are built newest first, so word `t` of the schedule stands at place `79 - t`. -/
theorem sha1Schedule_getD (b : List Byte) (t : Nat) (h : t < 80) :
    (sha1Schedule b).getD t 0
      = (scheduleExtend 64 ((List.range 16).map (packWord b)).reverse).getD (79 - t) 0 := by
  rw [sha1Schedule, List.getD_reverse _ (by simpa using h)]
  simp

theorem sha1Schedule_getD_block (b : List Byte) (t : Nat) (h : t < 16) :
    (sha1Schedule b).getD t 0 = packWord b t := by
  have hplace : 79 - t = 64 + (15 - t) := by omega
  have hback : 15 - (15 - t) = t := by omega
  have hlt : 15 - t < ((List.range 16).map (packWord b)).length := by
    rw [List.length_map, List.length_range]; omega
  rw [sha1Schedule_getD b t (by omega), hplace, scheduleExtend_getD_given, List.getD_reverse _ hlt]
  simp [hback, h]

theorem sha1Schedule_getD_rec (b : List Byte) (t : Nat) (h16 : 16 ≤ t) (h80 : t < 80) :
    (sha1Schedule b).getD t 0 = rotl 1 ((sha1Schedule b).getD (t - 3) 0 ^^^ (sha1Schedule b).getD (t - 8) 0
      ^^^ (sha1Schedule b).getD (t - 14) 0 ^^^ (sha1Schedule b).getD (t - 16) 0) := by
  have hplace : ∀ k ≤ 16, 79 - (t - k) = 79 - t + k := by omega
  rw [sha1Schedule_getD b t h80, scheduleExtend_getD_new _ _ _ (by omega),
    sha1Schedule_getD b (t - 3) (by omega), sha1Schedule_getD b (t - 8) (by omega),
    sha1Schedule_getD b (t - 14) (by omega), sha1Schedule_getD b (t - 16) (by omega),
    hplace 3 (by decide), hplace 8 (by decide), hplace 14 (by decide), hplace 16 (by decide)]

/-- Settles O36: the first 16 places are the block's packed words, the other 64 are those `scheduleExtend` adds. -/
theorem sha1ScheduleRecurrence : Obligations.Sha1ScheduleRecurrence := fun b _ =>
  ⟨sha1Schedule_length b, sha1Schedule_getD_block b, sha1Schedule_getD_rec b⟩

end Sys2Proof.Machine
end

section
/-! The bytes of a big-endian number by their index, and the counter's encoding (spec/00_scope.md R9;
spec/40_hmac_sha1.md R138). -/

namespace Sys2Proof.Machine

/-- Byte `j` of `BE_n(v)` is `v` shifted down past the bytes that follow it. -/
theorem beBytes_getD (n v j : Nat) (h : j < n) : (beBytes n v).getD j 0 = BitVec.ofNat 8 (v / 256 ^ (n - 1 - j)) := by
  induction n generalizing j with
  | zero => omega
  | succ n ih =>
    cases j with
    | zero => rfl
    | succ j =>
      have hpow : n + 1 - 1 - (j + 1) = n - 1 - j := by omega
      rw [beBytes, List.getD_cons_succ, ih j (by omega), hpow]

/-- The counter's bytes give back its low 64 bits. -/
theorem intBE_ctrBytes (c : Nat) : intBE (ctrBytes c) = c % 2 ^ 64 :=
  intBE_beBytes 8 c

/-- Byte `j` holds the counter's bits `[63 - 8j : 56 - 8j]`. -/
theorem ctrBytes_getD_toNat (c j : Nat) (h : j < 8) :
    ((ctrBytes c).getD j 0).toNat = c / 2 ^ (56 - 8 * j) % 256 := by
  have hpow : 256 ^ (8 - 1 - j) = 2 ^ (56 - 8 * j) := by
    rw [show 56 - 8 * j = 8 * (8 - 1 - j) by omega, Nat.pow_mul]
  rw [ctrBytes, beBytes_getD 8 c j h, BitVec.toNat_ofNat, hpow]

/-- Settles O39: `BE_8` byte by byte, and its value modulo 2^64, which a 64-bit counter is below. -/
theorem counterBytesAreBigEndian : Obligations.CounterBytesAreBigEndian := by
  refine ⟨fun c hc => ⟨beBytes_length 8 c, ?_, ctrBytes_getD_toNat c⟩, by decide⟩
  rw [intBE_ctrBytes, Nat.mod_eq_of_lt hc]

end Sys2Proof.Machine
end

section
/-! The number of a slice of bytes, and of a buffer of words (spec/00_scope.md R9; spec/20_memory.md R75). -/

namespace Sys2Proof.Machine

/-- A number split into its bytes before byte `k` and the rest. -/
theorem intBE_split (s : List Byte) (k : Nat) :
    intBE s = 256 ^ (s.length - k) * intBE (s.take k) + intBE (s.drop k) := by
  rw [← List.length_drop, Nat.mul_comm, ← intBE_append, List.take_append_drop]

theorem intBE_drop_lt (s : List Byte) (k : Nat) : intBE (s.drop k) < 256 ^ (s.length - k) := by
  simpa using intBE_lt (s.drop k)

theorem intBE_take (s : List Byte) (k : Nat) : intBE (s.take k) = intBE s / 256 ^ (s.length - k) := by
  rw [intBE_split s k, Nat.mul_add_div (by positivity), Nat.div_eq_of_lt (intBE_drop_lt s k), Nat.add_zero]

theorem intBE_drop (s : List Byte) (k : Nat) : intBE (s.drop k) = intBE s % 256 ^ (s.length - k) := by
  rw [intBE_split s k, Nat.mul_add_mod, Nat.mod_eq_of_lt (intBE_drop_lt s k)]

/-- A slice drops the bytes after it by division and the bytes before it by remainder. -/
theorem intBE_slice (s : List Byte) (a b : Nat) (h : b ≤ s.length) :
    intBE (slice s a b) = intBE s / 256 ^ (s.length - b) % 256 ^ (b - a) := by
  rw [slice, ← List.drop_take, intBE_drop, intBE_take, List.length_take_of_le h]

/-- The first four bytes of a buffer are its first word, most significant byte first (R75). -/
theorem bufBytes_cons (w : Word) (ws : List Word) (n : Nat) :
    bufBytes (w :: ws) (4 + n) = beBytes 4 w.toNat ++ bufBytes ws n := by
  have htail (j : Nat) : bufByte (w :: ws) (4 + j) = bufByte ws j := by
    rw [bufByte, bufByte, show (4 + j) / 4 = j / 4 + 1 by omega, Nat.add_mod_left, List.getD_cons_succ]
  have hhead : (List.range 4).map (bufByte (w :: ws)) = beBytes 4 w.toNat := by
    simp [List.range_succ, bufByte, beBytes, BitVec.extractLsb', Nat.shiftRight_eq_div_pow]
  rw [bufBytes, List.range_add, List.map_append, List.map_map, hhead, bufBytes]
  simp only [Function.comp_def, htail]

theorem intBE_bufBytes_cons (w : Word) (ws : List Word) (n : Nat) :
    intBE (bufBytes (w :: ws) (4 + n)) = w.toNat * 256 ^ n + intBE (bufBytes ws n) := by
  have hw : w.toNat < 256 ^ 4 := w.isLt
  rw [bufBytes_cons, intBE_append, intBE_beBytes, bufBytes_length, Nat.mod_eq_of_lt hw]

end Sys2Proof.Machine
end

section
/-! Dynamic truncation as arithmetic on the digest's number, and the command TRUNC (spec/41_truncation.md R160, R161,
R166). -/

namespace Sys2Proof.Machine

/-- The digest-input buffer's bytes are its words' number (spec/30_encoding.md R103). -/
theorem Arch.intBE_Din (a : Arch) : intBE a.Din = a.dinNumber := by
  have hwords : a.din.toList = [a.din[0], a.din[1], a.din[2], a.din[3], a.din[4]] := by
    apply List.ext_getElem (by simp)
    intro i hi _
    have : i < 5 := by simpa using hi
    interval_cases i <;> rfl
  rw [Arch.Din, hwords]
  simp only [intBE_bufBytes_cons _ _ 16, intBE_bufBytes_cons _ _ 12, intBE_bufBytes_cons _ _ 8,
    intBE_bufBytes_cons _ _ 4, intBE_bufBytes_cons _ _ 0]
  simp [Arch.dinNumber, bufBytes, intBE]
  ring

/-- The offset of R160: the low nibble of byte 19. -/
def truncOffset (d : List Byte) : Nat := (d.getD 19 0).toNat % 16

theorem Arch.truncOffset_Din (a : Arch) : truncOffset a.Din = a.din[4].toNat % 16 := by
  rw [truncOffset, Arch.Din, bufBytes_getD _ _ _ (by decide), bufByte_toNat]
  simp

/-- `DT(d)` keeps the low 31 bits of the four bytes at the offset. -/
theorem dynTrunc_toNat_slice (d : List Byte) :
    (dynTrunc d).toNat = intBE (slice d (truncOffset d) (truncOffset d + 4)) % 2 ^ 31 := by
  have hoff : (d.getD 19 0 &&& 0x0F).toNat = truncOffset d := by
    rw [BitVec.toNat_and]
    exact Nat.and_two_pow_sub_one_eq_mod _ 4
  rw [dynTrunc, hoff, BitVec.toNat_and, BitVec.toNat_ofNat]
  exact (Nat.and_two_pow_sub_one_eq_mod _ 31).trans (Nat.mod_mod_of_dvd _ (by decide))

theorem dynTrunc_lt (d : List Byte) : (dynTrunc d).toNat < 2 ^ 31 := by
  rw [dynTrunc_toNat_slice]
  exact Nat.mod_lt _ (by decide)

/-- On 20 bytes, the four bytes at the offset end `16 - offset` bytes before the end of the number. -/
theorem dynTrunc_toNat (d : List Byte) (h : d.length = 20) :
    (dynTrunc d).toNat = intBE d / 2 ^ (128 - 8 * truncOffset d) % 2 ^ 31 := by
  have hoff : truncOffset d < 16 := Nat.mod_lt _ (by decide)
  have hpow : 256 ^ (20 - (truncOffset d + 4)) = 2 ^ (128 - 8 * truncOffset d) := by
    rw [show 128 - 8 * truncOffset d = 8 * (20 - (truncOffset d + 4)) by omega, Nat.pow_mul]
  rw [dynTrunc_toNat_slice, intBE_slice _ _ _ (by omega), h, hpow, Nat.add_sub_cancel_left]
  exact Nat.mod_mod_of_dvd _ (by decide)

/-- The value TRUNC stores, as a number made from DIN (R166). -/
theorem Arch.dynTrunc_Din (a : Arch) :
    (dynTrunc a.Din).setWidth 31 = BitVec.ofNat 31 (a.dinNumber / 2 ^ (128 - 8 * (a.din[4].toNat % 16))) := by
  apply BitVec.eq_of_toNat_eq
  rw [BitVec.toNat_setWidth, dynTrunc_toNat a.Din (bufBytes_length _ _), Arch.intBE_Din, Arch.truncOffset_Din,
    Nat.mod_mod, BitVec.toNat_ofNat]

theorem Arch.truncResult_ok {a : Arch} (h : a.dinLen = 20) :
    a.truncResult = .ok { a with truncVal := (dynTrunc a.Din).setWidth 31 } := by
  simp [Arch.truncResult, Arch.DINLEN, h]

theorem Arch.truncResult_error {a : Arch} (h : a.dinLen ≠ 20) : a.truncResult = .error .inputLength :=
  if_pos fun hlen => h (BitVec.eq_of_toNat_eq hlen)

/-- Settles O19: both cases of the length are a completion, and `dynTrunc_Din` gives the value. -/
theorem truncExtractsThirtyOneBits : Obligations.TruncExtractsThirtyOneBits := by
  refine ⟨rfl, fun s => ⟨fun hlen => ?_, fun hlen => ?_⟩⟩
  · rw [exec_eq, Arch.result, Arch.truncResult_ok hlen, State.complete_ok, Arch.dynTrunc_Din, Arch.finish]
  · rw [exec_eq, Arch.result, Arch.truncResult_error hlen, State.complete_error, State.erred, Arch.finish]

/-- Settles O20: the bound holds for every input, and both extremes are evaluated. -/
theorem truncatedValueRange : Obligations.TruncatedValueRange :=
  ⟨fun d _ => Nat.le_pred_of_lt (dynTrunc_lt d), by decide, by decide⟩

end Sys2Proof.Machine
end

section
/-! The decimal string from its last digit, and the number it reads as (spec/41_truncation.md R163). -/

namespace Sys2Proof.Machine

/-- The number a string of ASCII digits reads as. -/
def readDecimal (s : List Byte) : Nat := s.foldl (fun m b => m * 10 + (b.toNat - 0x30)) 0

theorem readDecimal_append_singleton (s : List Byte) (b : Byte) :
    readDecimal (s ++ [b]) = readDecimal s * 10 + (b.toNat - 0x30) := by
  rw [readDecimal, List.foldl_append, List.foldl_cons, List.foldl_nil, readDecimal]

/-- The ASCII code of a digit fits in a byte. -/
theorem asciiDigit_toNat (k : Nat) : (BitVec.ofNat 8 (0x30 + k % 10)).toNat = 0x30 + k % 10 := by
  rw [BitVec.toNat_ofNat]
  omega

@[simp] theorem decimal_length (v n : Nat) : (decimal v n).length = n := by simp [decimal]

theorem decimal_getD_toNat (v n j : Nat) (h : j < n) :
    ((decimal v n).getD j 0).toNat = 0x30 + v / 10 ^ (n - 1 - j) % 10 := by
  rw [List.getD_eq_getElem _ _ (by simpa using h), ← asciiDigit_toNat]
  simp [decimal]

/-- The last digit is `v mod 10`, and the digits before it are those of `v div 10`. -/
theorem decimal_succ (v n : Nat) :
    decimal v (n + 1) = decimal (v / 10) n ++ [BitVec.ofNat 8 (0x30 + v % 10)] := by
  have hinit : ∀ j ∈ List.range n, v / 10 ^ (n - j) = v / 10 / 10 ^ (n - 1 - j) := by
    intro j hj
    have hj := List.mem_range.1 hj
    rw [Nat.div_div_eq_div_mul, ← pow_succ', show n - 1 - j + 1 = n - j by omega]
  rw [decimal, List.range_succ, List.map_append, decimal, Nat.add_sub_cancel]
  congr 1
  · exact List.map_congr_left fun j hj => by rw [hinit j hj]
  · simp

/-- Only the low `n` digits of a number stand in a string of length `n`. -/
theorem readDecimal_decimal (v n : Nat) : readDecimal (decimal v n) = v % 10 ^ n := by
  induction n generalizing v with
  | zero => rw [pow_zero, Nat.mod_one]; rfl
  | succ n ih =>
    rw [decimal_succ, readDecimal_append_singleton, ih, asciiDigit_toNat, Nat.add_sub_cancel_left, pow_succ',
      Nat.mod_mul]
    ring

/-- Settles O21: a number below `10^n` loses no digit, so `readDecimal_decimal` gives it back. -/
theorem decimalStringIsPaddedAndReadsBack : Obligations.DecimalStringIsPaddedAndReadsBack := by
  refine ⟨fun v n _ _ hv => ⟨decimal_length v n, decimal_getD_toNat v n, ?_⟩, by decide, by decide⟩
  calc readDecimal (decimal v n) = v % 10 ^ n := readDecimal_decimal v n
    _ = v := Nat.mod_eq_of_lt hv

end Sys2Proof.Machine
end

section
/-! The bytes of a buffer packed from a byte sequence (spec/20_memory.md R75). -/

namespace Sys2Proof.Machine

theorem bufByte_packed (s : List Byte) (m j : Nat) (hs : s.length = 4 * m) (hj : j < 4 * m) :
    bufByte ((List.range m).map (packWord s)) j = s.getD j 0 := by
  have hword : j / 4 < m := by omega
  rw [bufByte, List.getD_eq_getElem _ _ (by simpa using hword), List.getElem_map, List.getElem_range,
    packWord_byte s (j / 4) (j % 4) (by omega) (by omega), Nat.div_add_mod]

/-- A sequence that fills whole words comes back from the words it was packed into. -/
theorem bufBytes_packed (s : List Byte) (m : Nat) (hs : s.length = 4 * m) :
    bufBytes ((List.range m).map (packWord s)) (4 * m) = s := by
  apply List.ext_getElem (by rw [bufBytes_length, hs])
  intro j hj hj'
  rw [← List.getD_eq_getElem _ 0 hj, ← List.getD_eq_getElem _ 0 hj', bufBytes_getD _ _ _ (hs ▸ hj'),
    bufByte_packed s m j hs (hs ▸ hj')]

end Sys2Proof.Machine
end

section
/-! What `WriteOTP` leaves in the result registers, read back as numbers and as bytes (spec/42_otp_generate.md R180). -/

namespace Sys2Proof.Machine

theorem Arch.writeOtp_truncVal_toNat (a : Arch) (k : List Byte) (c n : Nat) :
    (a.writeOtp k c n).truncVal.toNat = (truncOf k c).toNat := by
  rw [Arch.writeOtp_truncVal, BitVec.toNat_setWidth, truncOf, Nat.mod_eq_of_lt (dynTrunc_lt _)]

/-- OTP_BIN is wide enough for every OTP number of at most nine digits (R38). -/
theorem Arch.writeOtp_otpBin_toNat (a : Arch) (k : List Byte) (c n : Nat) (hn : n ≤ 9) :
    (a.writeOtp k c n).otpBin.toNat = otpNum (truncOf k c).toNat n := by
  have hlt : otpNum (truncOf k c).toNat n < 2 ^ 30 :=
    calc otpNum (truncOf k c).toNat n < 10 ^ n := Nat.mod_lt _ (by positivity)
      _ ≤ 10 ^ 9 := Nat.pow_le_pow_right (by decide) hn
      _ < 2 ^ 30 := by decide
  rw [Arch.writeOtp_otpBin, BitVec.toNat_ofNat, Nat.mod_eq_of_lt hlt]

/-- OTP_ASCII holds the decimal string of OTP_BIN and zeros behind it (R40). -/
theorem Arch.writeOtp_otpAsciiBytes (a : Arch) (k : List Byte) (c n : Nat) (hn : n ≤ 9) :
    (a.writeOtp k c n).otpAsciiBytes = decimal (a.writeOtp k c n).otpBin.toNat n ++ zeros (12 - n) := by
  have hlen : (otpStr k c n ++ zeros (12 - n)).length = 4 * 3 := by
    rw [List.length_append, otpStr, decimal_length, zeros_length]
    omega
  rw [Arch.writeOtp_otpBin_toNat a k c n hn]
  exact bufBytes_packed _ 3 hlen

theorem Arch.writeOtp_values (a : Arch) (k : List Byte) (c : Nat) {n : Nat} (hn : n ≤ 9) :
    (a.writeOtp k c n).truncVal.toNat = (truncOf k c).toNat
      ∧ (a.writeOtp k c n).otpBin.toNat = otpNum (truncOf k c).toNat n
      ∧ (a.writeOtp k c n).otpAsciiBytes = decimal (a.writeOtp k c n).otpBin.toNat n ++ zeros (12 - n) :=
  ⟨a.writeOtp_truncVal_toNat k c n, a.writeOtp_otpBin_toNat k c n hn, a.writeOtp_otpAsciiBytes k c n hn⟩

/-- `WriteOTP` at the stored number of digits writes the OTP result registers alone, and OTP_LEN becomes DIGITS. -/
theorem Arch.writeOtp_frame (a : Arch) (k : List Byte) (c : Nat) :
    a.writeOtp k c a.DIGITS = { a with
      truncVal := (a.writeOtp k c a.DIGITS).truncVal, otpBin := (a.writeOtp k c a.DIGITS).otpBin
      otpLen := a.digits, otpAscii := (a.writeOtp k c a.DIGITS).otpAscii } := by
  have hlen : BitVec.ofNat 4 a.DIGITS = a.digits := by rw [Arch.DIGITS, BitVec.ofNat_toNat, BitVec.setWidth_eq]
  exact congrArg (fun len => { a.writeOtp k c a.DIGITS with otpLen := len }) hlen

/-- The OTP results are made of the key, the counter and the number of digits alone (R184). -/
theorem Arch.writeOtp_otpResults_congr (a b : Arch) (k : List Byte) (c n : Nat) (code : ErrCode) :
    ((a.writeOtp k c n).finish code).otpResults = ((b.writeOtp k c n).finish code).otpResults := rfl

end Sys2Proof.Machine
end

section
/-! The configuration errors in their order (spec/60_exceptions.md R276), and how a command behind such a check
completes (spec/44_control.md R241, R242). -/

namespace Sys2Proof.Machine

theorem Arch.digitsLegal_of {a : Arch} (hlo : 1 ≤ a.DIGITS) (hhi : a.DIGITS ≤ 9) : a.digitsLegal = true :=
  (digitsLegal_iff a).2 ⟨hlo, hhi⟩

theorem Arch.digitsLegal_eq_false {a : Arch} (h : ¬ (1 ≤ a.DIGITS ∧ a.DIGITS ≤ 9)) : a.digitsLegal = false := by
  rw [← Bool.not_eq_true, digitsLegal_iff]
  exact h

theorem Arch.hotpError_cfgDigits {a : Arch} (h : ¬ (1 ≤ a.DIGITS ∧ a.DIGITS ≤ 9)) :
    a.hotpError = some .cfgDigits := by
  simp [Arch.hotpError, Arch.digitsLegal_eq_false h]

theorem Arch.hotpError_cfgKeylen {a : Arch} (hlo : 1 ≤ a.DIGITS) (hhi : a.DIGITS ≤ 9) (hkey : 64 < a.KEYLEN) :
    a.hotpError = some .cfgKeylen := by
  simp [Arch.hotpError, Arch.digitsLegal_of hlo hhi, hkey]

theorem Arch.totpError_cfgDigits {a : Arch} (h : ¬ (1 ≤ a.DIGITS ∧ a.DIGITS ≤ 9)) :
    a.totpError = some .cfgDigits := by
  simp [Arch.totpError, Arch.digitsLegal_eq_false h]

theorem Arch.totpError_cfgTimestep {a : Arch} (hlo : 1 ≤ a.DIGITS) (hhi : a.DIGITS ≤ 9) (hts : a.TS = 0) :
    a.totpError = some .cfgTimestep := by
  simp [Arch.totpError, Arch.digitsLegal_of hlo hhi, hts]

theorem Arch.totpError_cfgKeylen {a : Arch} (hlo : 1 ≤ a.DIGITS) (hhi : a.DIGITS ≤ 9) (hts : a.TS ≠ 0)
    (hkey : 64 < a.KEYLEN) : a.totpError = some .cfgKeylen := by
  simp [Arch.totpError, Arch.digitsLegal_of hlo hhi, hts, hkey]

theorem Arch.hotpLegal.hotpError {a : Arch} (h : a.hotpLegal) : a.hotpError = none := by
  obtain ⟨hlo, hhi, hkey⟩ := h
  exact (hotpError_none a).2 ⟨⟨hlo, hhi⟩, hkey⟩

theorem Arch.totpLegal.totpError {a : Arch} (h : a.totpLegal) : a.totpError = none := by
  obtain ⟨⟨hlo, hhi, hkey⟩, hts⟩ := h
  exact (totpError_none a).2 ⟨⟨hlo, hhi⟩, hts.ne', hkey⟩

/-- A check that fails never answers the code of success. -/
theorem Arch.hotpError_ne_some_none (a : Arch) : a.hotpError ≠ some .none := by
  rw [Arch.hotpError]
  split_ifs <;> simp

theorem Arch.totpError_ne_some_none (a : Arch) : a.totpError ≠ some .none := by
  rw [Arch.totpError]
  split_ifs <;> simp

theorem exec_of_error {i : Instr} {s : State} {e : Option ErrCode} {a : Arch} {code : ErrCode}
    (hr : s.arch.result i = resultUnless e a) (he : e = some code) : exec i s = .next (s.erred code) := by
  rw [exec_eq, hr, he, resultUnless_some, State.complete_error, State.erred, Arch.finish]

theorem exec_of_none {i : Instr} {s : State} {e : Option ErrCode} {a : Arch}
    (hr : s.arch.result i = resultUnless e a) (he : e = none) :
    exec i s = .next { s with arch := a.finish .none } := by
  rw [exec_eq, hr, he, resultUnless_none, State.complete_ok]

/-- Two runs of a command whose check answers the same: the same code, and on success each has its result writes. -/
theorem exec_sameCheck {i : Instr} {s s' t t' : State} {e : Option ErrCode} {a a' : Arch}
    (hr : s.arch.result i = resultUnless e a) (hr' : s'.arch.result i = resultUnless e a') (hne : e ≠ some .none)
    (ht : exec i s = .next t) (ht' : exec i s' = .next t') :
    t.arch.errCode = t'.arch.errCode
      ∧ (t.arch.errCode = .none → t.arch = a.finish .none ∧ t'.arch = a'.finish .none) := by
  cases he : e with
  | none =>
    obtain rfl := Host.Outcome.next.inj ((exec_of_none hr he).symm.trans ht)
    obtain rfl := Host.Outcome.next.inj ((exec_of_none hr' he).symm.trans ht')
    exact ⟨rfl, fun _ => ⟨rfl, rfl⟩⟩
  | some code =>
    obtain rfl := Host.Outcome.next.inj ((exec_of_error hr he).symm.trans ht)
    obtain rfl := Host.Outcome.next.inj ((exec_of_error hr' he).symm.trans ht')
    exact ⟨rfl, fun hcode => absurd (he.trans (congrArg some hcode)) hne⟩

end Sys2Proof.Machine
end

section
/-! The generation commands (spec/42_otp_generate.md R181, R183, R184). -/

namespace Sys2Proof.Machine

theorem Arch.result_hotpGen (a : Arch) :
    a.result .hotpGen = resultUnless a.hotpError (a.writeOtp a.K a.COUNTER64 a.DIGITS) := rfl

theorem Arch.result_totpGen (a : Arch) :
    a.result .totpGen = resultUnless a.totpError
      ((a.writeTctr (a.TIME64 / a.TS)).writeOtp a.K (a.TIME64 / a.TS) a.DIGITS) := rfl

theorem Arch.TIME64_div_lt (a : Arch) (ts : Nat) : a.TIME64 / ts < 2 ^ 64 :=
  (Nat.div_le_self _ _).trans_lt (pairValue_lt _ _)

theorem Arch.writeTctr_TCTR (a : Arch) {c : Nat} (h : c < 2 ^ 64) : (a.writeTctr c).TCTR = c :=
  pairValue_halves c h

/-- The registers with COUNTER64 replaced, as SETCTR leaves them. -/
def Arch.withCounter (a : Arch) (c : Nat) : Arch := { a with counterLo := loHalf c, counterHi := hiHalf c }

theorem Arch.withCounter_COUNTER64 (a : Arch) {c : Nat} (h : c < 2 ^ 64) : (a.withCounter c).COUNTER64 = c :=
  pairValue_halves c h

/-- HOTP_GEN on legal operands (R181). -/
theorem exec_hotpGen_legal {s : State} (h : s.arch.hotpLegal) :
    exec .hotpGen s
      = .next { s with arch := (s.arch.writeOtp s.arch.K s.arch.COUNTER64 s.arch.DIGITS).finish .none } :=
  exec_of_none s.arch.result_hotpGen h.hotpError

/-- Settles O22: the two error cases in their order, and on success the registers `WriteOTP` leaves. -/
theorem hotpGenWritesTheOtp : Obligations.HotpGenWritesTheOtp := by
  refine ⟨rfl, fun s hdig => ?_, fun s hlo hhi hkey => ?_, fun s hlegal => ?_⟩
  · exact exec_of_error s.arch.result_hotpGen (Arch.hotpError_cfgDigits hdig)
  · exact exec_of_error s.arch.result_hotpGen (Arch.hotpError_cfgKeylen hlo hhi hkey)
  · have ⟨_, hhi, _⟩ := hlegal
    obtain ⟨htrunc, hbin, hascii⟩ := s.arch.writeOtp_values s.arch.K s.arch.COUNTER64 hhi
    refine ⟨_, exec_hotpGen_legal hlegal, ?_, htrunc, hbin, hascii⟩
    exact congrArg (fun b => { s with arch := b.finish .none }) (s.arch.writeOtp_frame _ _)

/-- TOTP_GEN on legal operands (R183). -/
theorem exec_totpGen_legal {s : State} (h : s.arch.totpLegal) :
    exec .totpGen s
      = .next { s with arch := ((s.arch.writeTctr (s.arch.TIME64 / s.arch.TS)).writeOtp s.arch.K
          (s.arch.TIME64 / s.arch.TS) s.arch.DIGITS).finish .none } :=
  exec_of_none s.arch.result_totpGen h.totpError

/-- HOTP_GEN at a chosen counter (R181, R183). -/
theorem exec_hotpGen_withCounter {s : State} {c : Nat} (h : s.arch.hotpLegal) (hc : c < 2 ^ 64) :
    exec .hotpGen { s with arch := s.arch.withCounter c }
      = .next { s with arch := ((s.arch.withCounter c).writeOtp s.arch.K c s.arch.DIGITS).finish .none } := by
  have hlegal : (s.arch.withCounter c).hotpLegal := h
  rw [exec_hotpGen_legal (s := { s with arch := s.arch.withCounter c }) hlegal, Arch.withCounter_COUNTER64 _ hc]
  rfl

/-- Settles O23: the three error cases in their order, and on success the registers `WriteOTP` leaves at the TOTP
counter; that counter fits in 64 bits, so TCTR and COUNTER64 hold it whole. -/
theorem totpGenWritesCounterAndOtp : Obligations.TotpGenWritesCounterAndOtp := by
  refine ⟨rfl, fun s hdig => ?_, fun s hlo hhi hts => ?_, fun s hlo hhi hts hkey => ?_, fun s hlegal => ?_⟩
  · exact exec_of_error s.arch.result_totpGen (Arch.totpError_cfgDigits hdig)
  · exact exec_of_error s.arch.result_totpGen (Arch.totpError_cfgTimestep hlo hhi hts)
  · exact exec_of_error s.arch.result_totpGen (Arch.totpError_cfgKeylen hlo hhi hts hkey)
  · have ⟨hhotp, _⟩ := hlegal
    have ⟨_, hhi, _⟩ := hhotp
    have hctr := s.arch.TIME64_div_lt s.arch.TS
    obtain ⟨htrunc, hbin, hascii⟩ :=
      (s.arch.writeTctr (s.arch.TIME64 / s.arch.TS)).writeOtp_values s.arch.K (s.arch.TIME64 / s.arch.TS) hhi
    have htctr := s.arch.writeTctr_TCTR hctr
    refine ⟨_, exec_totpGen_legal hlegal, ?_, htctr, htrunc, hbin, hascii, _,
      exec_hotpGen_withCounter hhotp hctr, Arch.writeOtp_otpResults_congr ..⟩
    exact congrArg (fun b => { s with arch := b.finish .none }) ((s.arch.writeTctr _).writeOtp_frame _ _)

/-! ### Determinism (R184) -/

section
variable {a b : Arch} (h : a.operands = b.operands)
include h

theorem Arch.DIGITS_congr : a.DIGITS = b.DIGITS := congrArg (fun o : Operands => o.digits.toNat) h

theorem Arch.KEYLEN_congr : a.KEYLEN = b.KEYLEN := congrArg (fun o : Operands => o.keyLen.toNat) h

theorem Arch.TS_congr : a.TS = b.TS := congrArg (fun o : Operands => o.timeStep.toNat) h

theorem Arch.COUNTER64_congr : a.COUNTER64 = b.COUNTER64 :=
  congrArg (fun o : Operands => pairValue o.counterHi o.counterLo) h

theorem Arch.TIME64_congr : a.TIME64 = b.TIME64 :=
  congrArg (fun o : Operands => pairValue o.timeHi o.timeLo) h

theorem Arch.K_congr : a.K = b.K := congrArg (fun o : Operands => bufBytes o.key.toList o.keyLen.toNat) h

theorem Arch.hotpError_congr : a.hotpError = b.hotpError := by
  unfold Arch.hotpError Arch.digitsLegal
  rw [Arch.DIGITS_congr h, Arch.KEYLEN_congr h]

theorem Arch.totpError_congr : a.totpError = b.totpError := by
  unfold Arch.totpError Arch.digitsLegal
  rw [Arch.DIGITS_congr h, Arch.TS_congr h, Arch.KEYLEN_congr h]

theorem Arch.result_hotpGen_congr :
    b.result .hotpGen = resultUnless a.hotpError (b.writeOtp a.K a.COUNTER64 a.DIGITS) := by
  rw [Arch.result_hotpGen, Arch.hotpError_congr h, Arch.K_congr h, Arch.COUNTER64_congr h, Arch.DIGITS_congr h]

theorem Arch.result_totpGen_congr :
    b.result .totpGen = resultUnless a.totpError
      ((b.writeTctr (a.TIME64 / a.TS)).writeOtp a.K (a.TIME64 / a.TS) a.DIGITS) := by
  rw [Arch.result_totpGen, Arch.totpError_congr h, Arch.K_congr h, Arch.TIME64_congr h, Arch.TS_congr h,
    Arch.DIGITS_congr h]

end

/-- Settles O24: the check and the OTP are functions of the operands, so both runs answer the same code, and on
success both write the OTP of the same key, counter and number of digits. -/
theorem generationDependsOnOperandsOnly : Obligations.GenerationDependsOnOperandsOnly := by
  refine fun s s' hop => ⟨fun t t' ht ht' => ?_, fun t t' ht ht' => ?_⟩
  · obtain ⟨hcode, hok⟩ := exec_sameCheck s.arch.result_hotpGen (Arch.result_hotpGen_congr hop)
      s.arch.hotpError_ne_some_none ht ht'
    refine ⟨hcode, fun hnone => ?_⟩
    obtain ⟨harch, harch'⟩ := hok hnone
    rw [harch, harch']
    exact Arch.writeOtp_otpResults_congr ..
  · obtain ⟨hcode, hok⟩ := exec_sameCheck s.arch.result_totpGen (Arch.result_totpGen_congr hop)
      s.arch.totpError_ne_some_none ht ht'
    refine ⟨hcode, fun hnone => ?_⟩
    obtain ⟨harch, harch'⟩ := hok hnone
    rw [harch, harch']
    exact ⟨Arch.writeOtp_otpResults_congr .., rfl⟩

end Sys2Proof.Machine
end

section
/-! The comparator (spec/43_validate.md R210): the candidate against an expected string, and against the OTP of a
counter. -/

namespace Sys2Proof.Machine

theorem Arch.candEq_iff (a : Arch) (e : List Byte) (n : Nat) :
    a.candEq e n = true ↔ a.CANDLEN = n ∧ ∀ j < n, a.candByte j = e.getD j 0 := by
  simp [Arch.candEq]

/-- The comparison in the window loop is the equality of R210 with the OTP of the position's counter. -/
theorem Arch.candEq_otpStr (a : Arch) (c : Nat) :
    a.candEq (otpStr a.K c a.DIGITS) a.DIGITS = decide (a.matchesAt c) :=
  Bool.eq_iff_iff.2 ((a.candEq_iff _ _).trans decide_eq_true_iff.symm)

/-- The comparator sees the candidate's length and its first `n` bytes. -/
theorem Arch.candEq_congr {a b : Arch} (e : List Byte) {n : Nat} (hlen : a.CANDLEN = b.CANDLEN)
    (hbytes : ∀ j < n, a.candByte j = b.candByte j) : a.candEq e n = b.candEq e n := by
  rw [Bool.eq_iff_iff, Arch.candEq_iff, Arch.candEq_iff, hlen]
  exact and_congr_right fun _ => forall₂_congr fun j hj => by rw [hbytes j hj]

theorem bufBytes_eq_iff (ws : List Word) (e : List Byte) :
    bufBytes ws e.length = e ↔ ∀ j < e.length, bufByte ws j = e.getD j 0 := by
  constructor
  · intro h j hj
    rw [← bufBytes_getD ws _ j hj, h]
  · intro h
    refine List.ext_getElem (bufBytes_length ..) fun j hj hj' => ?_
    rw [← List.getD_eq_getElem _ 0 hj, ← List.getD_eq_getElem _ 0 hj', bufBytes_getD _ _ _ hj', h j hj']

/-- Settles O26: bytewise equality is equality of the strings, and the compared bytes are at indices below 9. -/
theorem candidateEqualityIsByteEquality : Obligations.CandidateEqualityIsByteEquality := by
  refine ⟨fun a e n _ _ hlen => ?_, fun a cand' e n hn hbytes => ?_⟩
  · subst hlen
    rw [Arch.candEq_iff, bufBytes_eq_iff]
    rfl
  · exact Arch.candEq_congr e rfl fun j hj => hbytes j (by omega)

end Sys2Proof.Machine
end

section
/-! The two windows (spec/43_validate.md R212, R214). -/

namespace Sys2Proof.Machine

/-! ### The HOTP window -/

theorem filter_range_lt (l m : Nat) : (List.range l).filter (fun i => decide (i < m)) = List.range (min l m) := by
  induction l with
  | zero => simp
  | succ l ih =>
    rw [List.range_succ, List.filter_append, ih]
    by_cases h : l < m
    · rw [Nat.min_eq_left h.le, Nat.min_eq_left h, List.range_succ]
      simp [h]
    · have hm : m ≤ l := Nat.le_of_not_lt h
      rw [Nat.min_eq_right hm, Nat.min_eq_right (hm.trans l.le_succ)]
      simp [h]

/-- The HOTP window is an initial segment of the positions: the cut leaves no gap. -/
theorem hotpWindow_eq (c l : Nat) :
    hotpWindow c l = (List.range (min l (2 ^ 64 - c))).map (fun i => (i, c + i)) := by
  have hcut : (fun i => decide (c + i ≤ 2 ^ 64 - 1)) = fun i => decide (i < 2 ^ 64 - c) := by
    funext i
    exact decide_eq_decide.2 (by omega)
  rw [hotpWindow, hcut, filter_range_lt]

@[simp] theorem hotpWindow_length (c l : Nat) : (hotpWindow c l).length = min l (2 ^ 64 - c) := by
  rw [hotpWindow_eq, List.length_map, List.length_range]

theorem mem_hotpWindow {c l : Nat} {p : Nat × Nat} :
    p ∈ hotpWindow c l ↔ p.1 < min l (2 ^ 64 - c) ∧ p.2 = c + p.1 := by
  rw [hotpWindow_eq, List.mem_map]
  constructor
  · rintro ⟨i, hi, rfl⟩
    exact ⟨List.mem_range.1 hi, rfl⟩
  · rintro ⟨hi, hc⟩
    exact ⟨p.1, List.mem_range.2 hi, Prod.ext rfl hc.symm⟩

/-- Settles O27: the window in closed form has this length and these entries. -/
theorem hotpWindowIsForwardAndCut : Obligations.HotpWindowIsForwardAndCut := by
  refine fun c l _ _ => ⟨hotpWindow_length c l, fun i hi => ?_⟩
  rw [hotpWindow_eq, List.getElem?_map, List.getElem?_range hi, Option.map_some]

/-! ### The TOTP window -/

theorem totpCtr_sub {t ts : Nat} (hts : 0 < ts) (h : ts ≤ t) : totpCtr (t - ts) ts = totpCtr t ts - 1 :=
  Nat.eq_sub_of_add_eq (Nat.div_eq_sub_div hts h).symm

theorem totpCtr_add (t : Nat) {ts : Nat} (hts : 0 < ts) : totpCtr (t + ts) ts = totpCtr t ts + 1 :=
  Nat.add_div_right t hts

theorem mem_totpWindow {t ts p c : Nat} :
    (p, c) ∈ totpWindow t ts ↔
      (p = 0 ∧ c = t / ts) ∨ (p = 1 ∧ ts ≤ t ∧ c = t / ts - 1) ∨ (p = 2 ∧ t + ts ≤ 2 ^ 64 - 1 ∧ c = t / ts + 1) := by
  simp only [totpWindow, totpCtr, List.mem_append, List.mem_ite_nil_right, List.mem_singleton, Prod.mk.injEq, or_assoc,
    and_left_comm]

theorem totpWindow_length (t ts : Nat) :
    (totpWindow t ts).length = 1 + (if ts ≤ t then 1 else 0) + (if t + ts ≤ 2 ^ 64 - 1 then 1 else 0) := by
  rw [totpWindow, List.length_append, List.length_append, apply_ite List.length, apply_ite List.length]
  rfl

theorem totpWindow_pairwise (t ts : Nat) : (totpWindow t ts).Pairwise (fun x y => x.1 < y.1) := by
  rw [totpWindow]
  split_ifs <;> simp

/-- No counter of a TOTP window leaves 64 bits: the next step is the counter of a valid time. -/
theorem totpWindow_lt {t ts : Nat} (ht : t < 2 ^ 64) (hts : 0 < ts) {p : Nat × Nat} (h : p ∈ totpWindow t ts) :
    p.1 < 3 ∧ p.2 < 2 ^ 64 := by
  have hcur : t / ts ≤ t := Nat.div_le_self t ts
  rcases mem_totpWindow.1 h with ⟨hp, hc⟩ | ⟨hp, -, hc⟩ | ⟨hp, hnext, hc⟩
  · omega
  · omega
  · have hle : t / ts + 1 ≤ t + ts := Nat.add_div_right t hts ▸ Nat.div_le_self (t + ts) ts
    omega

/-- Settles O28: membership and order of the window, and the counters of the neighbouring times. -/
theorem totpWindowIsCurrentPreviousNext : Obligations.TotpWindowIsCurrentPreviousNext :=
  fun t ts _ hts _ =>
    ⟨fun _ _ => mem_totpWindow, totpWindow_pairwise t ts, totpCtr_sub hts, totpCtr_add t hts⟩

end Sys2Proof.Machine
end

section
/-! The window loop as a search (spec/43_validate.md R213, R215): it answers the first position of its window whose OTP
the candidate equals. -/

namespace Sys2Proof.Machine

/-- The result of the window loop that ends at a position, or at none. -/
def Match.ofPosition : Option (Nat × Nat) → Match
  | none => { found := false, idx := 0, ctr := 0 }
  | some p => { found := true, idx := p.1, ctr := p.2 }

/-- The window loop is a search for the first matching position. -/
theorem Arch.scan_eq_find (a : Arch) (w : List (Nat × Nat)) :
    a.scan w = Match.ofPosition (w.find? fun p => decide (a.matchesAt p.2)) := by
  have hspec := scan_spec a w
  simp only [Arch.candEq_otpStr] at hspec
  rcases hspec with ⟨hscan, hnone⟩ | ⟨pre, p, post, hw, hscan, hmatch, hbefore⟩
  · rw [hscan, List.find?_eq_none.2 fun p hp => by simp [hnone p hp], Match.ofPosition]
  · have hfind : w.find? (fun q => decide (a.matchesAt q.2)) = some p :=
      List.find?_eq_some_iff_append.2 ⟨hmatch, pre, post, hw, fun q hq => by simp [hbefore q hq]⟩
    rw [hscan, hfind, Match.ofPosition]

/-- The loop sees key and candidate only through which counters of the window match (R219). -/
theorem Arch.scan_congr {a b : Arch} {w : List (Nat × Nat)} (h : ∀ p ∈ w, (a.matchesAt p.2 ↔ b.matchesAt p.2)) :
    a.scan w = b.scan w := by
  rw [Arch.scan_eq_find, Arch.scan_eq_find, List.find?_congr fun p hp => decide_eq_decide.2 (h p hp)]

/-- The loop answers a position of its window, or zeros. -/
theorem Arch.scan_bounds (a : Arch) {w : List (Nat × Nat)} (hw : ∀ p ∈ w, p.1 < 2 ^ 8 ∧ p.2 < 2 ^ 64) :
    (a.scan w).idx < 2 ^ 8 ∧ (a.scan w).ctr < 2 ^ 64 := by
  rw [Arch.scan_eq_find]
  cases hfind : w.find? fun p => decide (a.matchesAt p.2) with
  | none => exact ⟨Nat.two_pow_pos 8, Nat.two_pow_pos 64⟩
  | some p => exact hw p (List.mem_of_find?_eq_some hfind)

/-- VRES and MATCH_CTR read back as the loop's answer when the window's positions and counters fit them (R42). -/
theorem Arch.writeVres_scan_values (a b : Arch) {w : List (Nat × Nat)} (hlen : w.length < 2 ^ 8)
    (hw : ∀ p ∈ w, p.1 < 2 ^ 8 ∧ p.2 < 2 ^ 64) :
    (b.writeVres w (a.scan w)).ntried.toNat = w.length
      ∧ (b.writeVres w (a.scan w)).matchIdx.toNat = (a.scan w).idx
      ∧ (b.writeVres w (a.scan w)).MATCHCTR = (a.scan w).ctr := by
  obtain ⟨hidx, hctr⟩ := a.scan_bounds hw
  exact ⟨(BitVec.toNat_ofNat ..).trans (Nat.mod_eq_of_lt hlen), (BitVec.toNat_ofNat ..).trans (Nat.mod_eq_of_lt hidx),
    pairValue_halves _ hctr⟩

/-- The loop over the HOTP window (R213), told by offsets from the counter. -/
theorem Arch.scan_hotpWindow (a : Arch) (c l : Nat) :
    (a.scan (hotpWindow c l) = { found := false, idx := 0, ctr := 0 }
        ∧ ∀ i < min l (2 ^ 64 - c), ¬ a.matchesAt (c + i))
    ∨ ∃ i < min l (2 ^ 64 - c), a.scan (hotpWindow c l) = { found := true, idx := i, ctr := c + i }
        ∧ a.matchesAt (c + i) ∧ ∀ j < i, ¬ a.matchesAt (c + j) := by
  rw [Arch.scan_eq_find, hotpWindow_eq, List.find?_map]
  cases hfind : (List.range (min l (2 ^ 64 - c))).find?
      ((fun p => decide (a.matchesAt p.2)) ∘ fun i => (i, c + i)) with
  | none =>
    refine .inl ⟨rfl, fun i hi => of_decide_eq_false ?_⟩
    exact (Bool.not_eq_true' _).mp (List.find?_range_eq_none.1 hfind i hi)
  | some i =>
    obtain ⟨hmatch, hi, hbefore⟩ := List.find?_range_eq_some.1 hfind
    refine .inr ⟨i, List.mem_range.1 hi, rfl, of_decide_eq_true hmatch, fun j hj => of_decide_eq_false ?_⟩
    exact (Bool.not_eq_true' _).mp (hbefore j hj)

theorem find?_ite_singleton {α : Type} (q : α → Bool) (p : Prop) [Decidable p] (x : α) :
    (if p then [x] else []).find? q = if p ∧ q x = true then some x else none := by
  by_cases hp : p <;> cases hq : q x <;> simp [hp, hq]

/-- The loop over the TOTP window (R215): the order of the tries is the order of the cases. -/
theorem Arch.scan_totpWindow (a : Arch) (t ts : Nat) :
    a.scan (totpWindow t ts) =
      if a.matchesAt (t / ts) then { found := true, idx := 0, ctr := t / ts }
      else if ts ≤ t ∧ a.matchesAt (t / ts - 1) then { found := true, idx := 1, ctr := t / ts - 1 }
      else if t + ts ≤ 2 ^ 64 - 1 ∧ a.matchesAt (t / ts + 1) then { found := true, idx := 2, ctr := t / ts + 1 }
      else { found := false, idx := 0, ctr := 0 } := by
  rw [Arch.scan_eq_find, totpWindow, totpCtr, List.find?_append, List.find?_append, List.find?_singleton,
    find?_ite_singleton, find?_ite_singleton]
  simp only [decide_eq_true_iff]
  split_ifs <;> rfl

end Sys2Proof.Machine
end

section
/-! The validation commands (spec/43_validate.md R213, R215). -/

namespace Sys2Proof.Machine

/-- The registers with the result writes of HOTP_VAL (R213). -/
def Arch.afterHotpVal (a : Arch) : Arch :=
  a.writeVres (hotpWindow a.COUNTER64 a.LOOKAHEAD) (a.scan (hotpWindow a.COUNTER64 a.LOOKAHEAD))

/-- The registers with the result writes of TOTP_VAL (R215). -/
def Arch.afterTotpVal (a : Arch) : Arch :=
  (a.writeTctr (a.TIME64 / a.TS)).writeVres (totpWindow a.TIME64 a.TS) (a.scan (totpWindow a.TIME64 a.TS))

theorem Arch.result_hotpVal (a : Arch) : a.result .hotpVal = resultUnless a.hotpError a.afterHotpVal := rfl

theorem Arch.result_totpVal (a : Arch) : a.result .totpVal = resultUnless a.totpError a.afterTotpVal := rfl

/-! ### HOTP_VAL -/

/-- NTRIED, MATCH_IDX and MATCH_CTR of HOTP_VAL are wide enough for the HOTP window. -/
theorem Arch.afterHotpVal_values (a : Arch) :
    a.afterHotpVal.ntried.toNat = min a.LOOKAHEAD (2 ^ 64 - a.COUNTER64)
      ∧ a.afterHotpVal.matchIdx.toNat = (a.scan (hotpWindow a.COUNTER64 a.LOOKAHEAD)).idx
      ∧ a.afterHotpVal.MATCHCTR = (a.scan (hotpWindow a.COUNTER64 a.LOOKAHEAD)).ctr := by
  have hl : a.LOOKAHEAD < 2 ^ 8 := a.lookahead.isLt
  have hlen := hotpWindow_length a.COUNTER64 a.LOOKAHEAD
  rw [← hlen]
  refine a.writeVres_scan_values a (by omega) fun p hp => ?_
  obtain ⟨hidx, hctr⟩ := mem_hotpWindow.1 hp
  omega

/-- The outcomes of R213, told by offsets from COUNTER64. -/
theorem Arch.afterHotpVal_cases (a : Arch) :
    (a.afterHotpVal.valid = false ∧ a.afterHotpVal.matchIdx = 0 ∧ a.afterHotpVal.MATCHCTR = 0
        ∧ ∀ i < min a.LOOKAHEAD (2 ^ 64 - a.COUNTER64), ¬ a.matchesAt (a.COUNTER64 + i))
    ∨ ∃ i < min a.LOOKAHEAD (2 ^ 64 - a.COUNTER64), a.afterHotpVal.valid = true
        ∧ a.afterHotpVal.matchIdx.toNat = i ∧ a.afterHotpVal.MATCHCTR = a.COUNTER64 + i
        ∧ a.matchesAt (a.COUNTER64 + i) ∧ ∀ j < i, ¬ a.matchesAt (a.COUNTER64 + j) := by
  obtain ⟨-, hidx, hctr⟩ := a.afterHotpVal_values
  have hvalid : a.afterHotpVal.valid = (a.scan (hotpWindow a.COUNTER64 a.LOOKAHEAD)).found := rfl
  rcases a.scan_hotpWindow a.COUNTER64 a.LOOKAHEAD with ⟨hscan, hnone⟩ | ⟨i, hi, hscan, hmatch, hfirst⟩ <;>
    rw [hscan] at hvalid hidx hctr
  · exact .inl ⟨hvalid, BitVec.eq_of_toNat_eq hidx, hctr, hnone⟩
  · exact .inr ⟨i, hi, hvalid, hidx, hctr, hmatch, hfirst⟩

/-- Settles O29: the two error cases in their order, and on success the answer of the loop over the HOTP window, where a
counter stands for its offset from COUNTER64. -/
theorem hotpValFindsTheFirstMatch : Obligations.HotpValFindsTheFirstMatch := by
  refine ⟨rfl, fun s hdig => ?_, fun s hlo hhi hkey => ?_, fun s hlegal => ?_⟩
  · exact exec_of_error s.arch.result_hotpVal (Arch.hotpError_cfgDigits hdig)
  · exact exec_of_error s.arch.result_hotpVal (Arch.hotpError_cfgKeylen hlo hhi hkey)
  · obtain ⟨hntried, -, -⟩ := s.arch.afterHotpVal_values
    refine ⟨_, exec_of_none s.arch.result_hotpVal hlegal.hotpError, rfl, hntried, ?_⟩
    simp only [Arch.finish_valid, Arch.finish_matchIdx, Arch.finish_ntried, Arch.finish_MATCHCTR, hntried]
    rcases s.arch.afterHotpVal_cases with ⟨hvalid, hidx, hctr, hnone⟩ | ⟨i, hi, hvalid, hidx, hctr, hmatch, hfirst⟩
    · refine ⟨?_, by simp [hvalid], fun _ => ⟨hidx, hctr⟩⟩
      refine iff_of_false (by simp [hvalid]) fun ⟨c, hlo, hhi, hcut, hmatch⟩ => ?_
      obtain ⟨j, rfl⟩ := Nat.exists_eq_add_of_le hlo
      exact hnone j (by omega) hmatch
    · rw [hidx, hctr]
      refine ⟨iff_of_true hvalid ⟨_, by omega, by omega, by omega, hmatch⟩, fun _ => ⟨hi, rfl, hmatch, ?_⟩,
        by simp [hvalid]⟩
      intro c hlo hlt
      obtain ⟨j, rfl⟩ := Nat.exists_eq_add_of_le hlo
      exact hfirst j (by omega)

/-! ### TOTP_VAL -/

/-- NTRIED, MATCH_IDX and MATCH_CTR of TOTP_VAL are wide enough for the TOTP window. -/
theorem Arch.afterTotpVal_values (a : Arch) (hts : 0 < a.TS) :
    a.afterTotpVal.ntried.toNat = (totpWindow a.TIME64 a.TS).length
      ∧ a.afterTotpVal.matchIdx.toNat = (a.scan (totpWindow a.TIME64 a.TS)).idx
      ∧ a.afterTotpVal.MATCHCTR = (a.scan (totpWindow a.TIME64 a.TS)).ctr := by
  refine a.writeVres_scan_values _ ?_ fun p hp => ?_
  · rw [totpWindow_length]
    split_ifs <;> decide
  · obtain ⟨hidx, hctr⟩ := totpWindow_lt (pairValue_lt _ _) hts hp
    exact ⟨by omega, hctr⟩

/-- Settles O30: the three error cases in their order, and on success TCTR and the answer of the loop over the TOTP
window, read back from the registers. -/
theorem totpValChecksCurrentPreviousNext : Obligations.TotpValChecksCurrentPreviousNext := by
  refine ⟨rfl, fun s hdig => ?_, fun s hlo hhi hts => ?_, fun s hlo hhi hts hkey => ?_, fun s hlegal => ?_⟩
  · exact exec_of_error s.arch.result_totpVal (Arch.totpError_cfgDigits hdig)
  · exact exec_of_error s.arch.result_totpVal (Arch.totpError_cfgTimestep hlo hhi hts)
  · exact exec_of_error s.arch.result_totpVal (Arch.totpError_cfgKeylen hlo hhi hts hkey)
  · obtain ⟨hntried, hidx, hctr⟩ := s.arch.afterTotpVal_values hlegal.2
    have htctr : s.arch.afterTotpVal.TCTR = s.arch.TIME64 / s.arch.TS :=
      s.arch.writeTctr_TCTR (s.arch.TIME64_div_lt s.arch.TS)
    refine ⟨_, exec_of_none s.arch.result_totpVal hlegal.totpError, rfl, htctr,
      hntried.trans (totpWindow_length ..), ?_⟩
    have hvalid : s.arch.afterTotpVal.valid = (s.arch.scan (totpWindow s.arch.TIME64 s.arch.TS)).found := rfl
    rw [Arch.finish_valid, Arch.finish_matchIdx, Arch.finish_MATCHCTR, hvalid, hidx, hctr, Arch.scan_totpWindow]
    split_ifs <;> rfl

end Sys2Proof.Machine
end

section
/-! What validation reveals (spec/43_validate.md R219): the outputs are made of the operands other than key and
candidate, and of the loop's answer. -/

namespace Sys2Proof.Machine

/-! ### The checks see of the key only that its length is legal -/

section
variable {a b : Arch} (hkey : a.KEYLEN ≤ 64) (hkey' : b.KEYLEN ≤ 64) (hdig : a.DIGITS = b.DIGITS)
include hkey hkey' hdig

theorem Arch.hotpError_congr_of_keylen : a.hotpError = b.hotpError := by
  simp only [Arch.hotpError, Arch.digitsLegal, hdig, hkey.not_gt, hkey'.not_gt]

theorem Arch.totpError_congr_of_keylen (hts : a.TS = b.TS) : a.totpError = b.totpError := by
  simp only [Arch.totpError, Arch.digitsLegal, hdig, hts, hkey.not_gt, hkey'.not_gt]

end

/-! ### The result writes -/

/-- The validation results are made of the window and the loop's answer alone. -/
theorem Arch.writeVres_sameResults {a b : Arch} (w : List (Nat × Nat)) (m : Match)
    (hotp : a.otpResults = b.otpResults) (htctr : a.TCTR = b.TCTR) :
    (a.writeVres w m).sameResults (b.writeVres w m) := ⟨hotp, rfl, htctr⟩

/-- Two runs of a command whose check answers the same, that start with the same results and write the same ones, and
whose writes leave OTP results and operands alone. -/
theorem exec_sameResults {i : Instr} {s s' t t' : State} {e : Option ErrCode} {a a' : Arch}
    (hr : s.arch.result i = resultUnless e a) (hr' : s'.arch.result i = resultUnless e a')
    (hstart : s.arch.sameResults s'.arch) (hwrites : a.sameResults a')
    (hotp : a.otpResults = s.arch.otpResults) (hop : a.operands = s.arch.operands)
    (ht : exec i s = .next t) (ht' : exec i s' = .next t') :
    t.arch.sameResults t'.arch ∧ t.arch.errCode = t'.arch.errCode
      ∧ t.arch.otpResults = s.arch.otpResults ∧ t.arch.operands = s.arch.operands := by
  cases he : e with
  | none =>
    obtain rfl := Host.Outcome.next.inj ((exec_of_none hr he).symm.trans ht)
    obtain rfl := Host.Outcome.next.inj ((exec_of_none hr' he).symm.trans ht')
    exact ⟨hwrites, rfl, hotp, hop⟩
  | some code =>
    obtain rfl := Host.Outcome.next.inj ((exec_of_error hr he).symm.trans ht)
    obtain rfl := Host.Outcome.next.inj ((exec_of_error hr' he).symm.trans ht')
    exact ⟨hstart, rfl, rfl, rfl⟩

/-- Settles O32: both runs answer the same check, and the loop over the common window gives the same answer because the
same counters of it match. -/
theorem validationRevealsOnlyMatches : Obligations.ValidationRevealsOnlyMatches := by
  intro s s' hdig hlook hstep hctr htime hkey hkey' hsame
  have hDIGITS : s.arch.DIGITS = s'.arch.DIGITS := congrArg BitVec.toNat hdig
  have hLOOK : s.arch.LOOKAHEAD = s'.arch.LOOKAHEAD := congrArg BitVec.toNat hlook
  have hTS : s.arch.TS = s'.arch.TS := congrArg BitVec.toNat hstep
  have ⟨hotp, _, htctr⟩ := hsame
  refine ⟨fun hmatch t t' ht ht' => ?_, fun hmatch t t' ht ht' => ?_⟩
  · have hscan : s.arch.scan (hotpWindow s.arch.COUNTER64 s.arch.LOOKAHEAD)
        = s'.arch.scan (hotpWindow s.arch.COUNTER64 s.arch.LOOKAHEAD) := by
      refine Arch.scan_congr fun p hp => ?_
      obtain ⟨hpos, hpctr⟩ := mem_hotpWindow.1 hp
      exact hmatch p.2 (by omega) (by omega) (by omega)
    have herr := Arch.hotpError_congr_of_keylen hkey hkey' hDIGITS
    have hwrites : s.arch.afterHotpVal.sameResults s'.arch.afterHotpVal := by
      rw [Arch.afterHotpVal, Arch.afterHotpVal, ← hctr, ← hLOOK, hscan]
      exact Arch.writeVres_sameResults _ _ hotp htctr
    exact exec_sameResults s.arch.result_hotpVal (herr ▸ s'.arch.result_hotpVal) hsame hwrites rfl rfl ht ht'
  · have hscan := Arch.scan_congr hmatch
    have herr := Arch.totpError_congr_of_keylen hkey hkey' hDIGITS hTS
    have hwrites : s.arch.afterTotpVal.sameResults s'.arch.afterTotpVal := by
      rw [Arch.afterTotpVal, Arch.afterTotpVal, ← htime, ← hTS, hscan]
      exact Arch.writeVres_sameResults _ _ hotp rfl
    exact exec_sameResults s.arch.result_totpVal (herr ▸ s'.arch.result_totpVal) hsame hwrites rfl rfl ht ht'

end Sys2Proof.Machine
end

section
/-! The control commands and the error completion (spec/44_control.md R242, R245). -/

namespace Sys2Proof.Machine

/-- Legal or not, a word ends in the one completion operation (R241, R242). -/
theorem completion_eq_complete (w : Word) (s : State) : ∃ r, completion w s = .next (s.complete r) := by
  rw [completion]
  cases decode w with
  | ok i => exact ⟨s.arch.result i, exec_eq i s⟩
  | error e => exact ⟨.error .illegalCmd, rfl⟩

/-- A code other than NONE comes from the error completion, which applies no result write. -/
theorem State.complete_eq_erred {s : State} {r : Except ErrCode Arch} (h : (s.complete r).arch.errCode ≠ .none) :
    s.complete r = s.erred (s.complete r).arch.errCode := by
  cases r with
  | ok a => exact absurd (Arch.finish_errCode a .none) h
  | error code => rfl

/-- Settles O11: the completion of any word is `State.complete`, and a code other than NONE leaves `State.erred`. -/
theorem errorCompletionWritesOnlyStatus : Obligations.ErrorCompletionWritesOnlyStatus := by
  intro w s t ht hcode
  obtain ⟨r, hr⟩ := completion_eq_complete w s
  obtain rfl := Host.Outcome.next.inj (hr.symm.trans ht)
  exact State.complete_eq_erred hcode

/-- Settles O18: the success completion of the zeroized registers, field by field. -/
theorem zeroizeClearsSecretsInputsAndResults : Obligations.ZeroizeClearsSecretsInputsAndResults := by
  refine ⟨rfl, fun s => ?_⟩
  rw [exec_eq, Arch.result, State.complete_ok, Arch.zeroized, Arch.finish]

end Sys2Proof.Machine
end

section
/-! Illegal command words (spec/30_encoding.md R100 to R102; spec/60_exceptions.md R274): the fields of a word as
numbers, the words the decoder rejects, and the engine's turn on one of them. -/

namespace Sys2Proof.Machine

/-- OPCODE is the low byte of the word (R100). -/
theorem CmdWord.ofWord_opcode_toNat (w : Word) : (CmdWord.ofWord w).opcode.toNat = w.toNat % 2 ^ 8 := by
  simp [CmdWord.ofWord]

/-- RSVD is 0 exactly when nothing of the word stands above its low byte (R100). -/
theorem CmdWord.ofWord_rsvd_eq_zero_iff (w : Word) : (CmdWord.ofWord w).rsvd = 0 ↔ w.toNat / 2 ^ 8 = 0 := by
  have hlt : w.toNat / 2 ^ 8 < 2 ^ 24 := by have := w.isLt; omega
  have hrsvd : (CmdWord.ofWord w).rsvd.toNat = w.toNat / 2 ^ 8 := by
    rw [CmdWord.ofWord, BitVec.extractLsb'_toNat, Nat.shiftRight_eq_div_pow, Nat.mod_eq_of_lt hlt]
  rw [← BitVec.toNat_inj, hrsvd]
  rfl

/-- A byte that is none of the seven opcodes is undefined (R102). -/
theorem decodeOpcode_undefined {op : BitVec 8} (h : op.toNat ∉ [0x00, 0x01, 0x02, 0x03, 0x04, 0x05, 0x0F]) :
    decodeOpcode op = .error .undefinedOpcode := by
  unfold decodeOpcode
  split
  case h_8 => rfl
  all_goals simp_all

/-- R101: bits in RSVD, or an opcode outside the seven, make a word no command. -/
theorem decode_illegal {w : Word}
    (h : w.toNat / 2 ^ 8 ≠ 0 ∨ w.toNat % 2 ^ 8 ∉ [0x00, 0x01, 0x02, 0x03, 0x04, 0x05, 0x0F]) :
    ∃ e, decode w = .error e := by
  rw [← CmdWord.ofWord_opcode_toNat] at h
  by_cases hr : (CmdWord.ofWord w).rsvd = 0
  · have hop := h.resolve_left (not_not_intro ((CmdWord.ofWord_rsvd_eq_zero_iff w).1 hr))
    exact ⟨.undefinedOpcode, by rw [decode, if_pos hr, decodeOpcode_undefined hop]⟩
  · exact ⟨.reservedBitsSet, if_neg hr⟩

/-- At the engine's turn a step is the completion of the latched word (R241, R305). -/
theorem step_engine {s : State} {w : Word} (hf : s.arch.fsm = .busy w) (ht : s.pending = [] ∨ s.latency = 0) :
    step s = completion w s := by
  rw [step, nextMove_engine.2 ⟨hf, ht⟩]

/-- Either reason for which a word is no command completes with ILLEGAL_CMD (R101, R274). -/
theorem completion_of_decode_error {w : Word} {e : DecodeError} (h : decode w = .error e) (s : State) :
    completion w s = .next s.completeIllegal := by
  rw [completion, h]

/-- Settles O3: the decoder rejects the word, so the engine's turn is the error completion with ILLEGAL_CMD, which
writes ERR_CODE, DONE and fsm. -/
theorem illegalWordCompletesWithIllegalCmd : Obligations.IllegalWordCompletesWithIllegalCmd := by
  intro s w hf ht hw
  obtain ⟨e, he⟩ := decode_illegal hw
  rw [step_engine hf ht, completion_of_decode_error he, State.completeIllegal, State.complete_error, Arch.finish]

end Sys2Proof.Machine
end

section
/-! Legal command words (spec/30_encoding.md R100 to R102, R105): the fields of a word and the word of its fields are
inverse to each other, and the opcode map is one to one. -/

namespace Sys2Proof

/-- The two fields cover the word: no bit of it is dropped (R100). -/
theorem CmdWord.toWord_ofWord (w : Word) : (CmdWord.ofWord w).toWord = w := by
  simp only [CmdWord.toWord, CmdWord.ofWord]
  exact (BitVec.extractLsb'_append_extractLsb'_eq_extractLsb' rfl).trans BitVec.extractLsb'_eq_self

theorem CmdWord.ofWord_toWord (c : CmdWord) : CmdWord.ofWord c.toWord = c := by
  rw [CmdWord.toWord, CmdWord.ofWord, BitVec.extractLsb'_append_eq_right, BitVec.extractLsb'_append_eq_left]

theorem CmdWord.ofWord_eq_iff {w : Word} {c : CmdWord} : CmdWord.ofWord w = c ↔ w = c.toWord :=
  ⟨fun h => by rw [← h, CmdWord.toWord_ofWord], fun h => by rw [h, CmdWord.ofWord_toWord]⟩

theorem decodeOpcode_opcode (i : Instr) : decodeOpcode i.opcode = .ok i := by
  cases i <;> rfl

/-- The opcode map answers a command only on that command's own opcode (R102). -/
theorem opcode_of_decodeOpcode {op : BitVec 8} {i : Instr} (h : decodeOpcode op = .ok i) : op = i.opcode := by
  unfold decodeOpcode at h
  split at h
  case h_8 => cases h
  all_goals
    cases h
    exact BitVec.eq_of_toNat_eq ‹_›

theorem decodeOpcode_eq_ok_iff {op : BitVec 8} {i : Instr} : decodeOpcode op = .ok i ↔ op = i.opcode :=
  ⟨opcode_of_decodeOpcode, fun h => h ▸ decodeOpcode_opcode i⟩

/-- A word decodes to a command exactly when its fields are the command's. -/
theorem decode_eq_ok_iff_fields {w : Word} {i : Instr} : decode w = .ok i ↔ CmdWord.ofWord w = i.cmdWord := by
  rw [Instr.cmdWord, CmdWord.mk.injEq, and_comm, ← decodeOpcode_eq_ok_iff, decode]
  by_cases hr : (CmdWord.ofWord w).rsvd = 0 <;> simp only [hr, if_true, if_false, true_and, false_and, reduceCtorEq]

theorem decode_eq_ok_iff {w : Word} {i : Instr} : decode w = .ok i ↔ w = encode i :=
  decode_eq_ok_iff_fields.trans CmdWord.ofWord_eq_iff

theorem decode_encode (i : Instr) : decode (encode i) = .ok i := decode_eq_ok_iff.2 rfl

theorem Instr.wellFormed_eq_true (i : Instr) : i.wellFormed = true := by
  cases i <;> rfl

/-- Settles O2: the fields of a word determine it, and the opcode map is one to one. -/
theorem wordDecodesExactlyToItsCommand : Obligations.WordDecodesExactlyToItsCommand := fun _ i =>
  decode_eq_ok_iff.trans (and_iff_right i.wellFormed_eq_true).symm

/-- Settles O1: the seven words are the encodings of the seven commands; the last two fail on RSVD and on OPCODE. -/
theorem commandWordsDecode : Obligations.CommandWordsDecode :=
  ⟨decode_encode .nop, decode_encode .trunc, decode_encode .hotpGen, decode_encode .totpGen, decode_encode .hotpVal,
    decode_encode .totpVal, decode_encode .zeroize, by decide, by decide⟩

end Sys2Proof
end

section
/-! The completion as a function of the registers (spec/44_control.md R241, R242, R247), and the turn to move
(spec/00_scope.md R4, spec/20_memory.md R81). -/

namespace Sys2Proof.Machine

/-- The result of a latched word: its command's, or ILLEGAL_CMD (R101, R247). -/
def Arch.resultOf (a : Arch) (w : Word) : Except ErrCode Arch :=
  match decode w with
  | .ok i => a.result i
  | .error _ => .error .illegalCmd

/-- The registers a result leaves: its writes, or none, and what every completion writes (R241, R242). -/
def Arch.finishWith (a : Arch) : Except ErrCode Arch → Arch
  | .ok b => b.finish .none
  | .error code => a.finish code

/-- The registers after the completion of a latched word. -/
def Arch.completed (a : Arch) (w : Word) : Arch := a.finishWith (a.resultOf w)

@[simp] theorem Arch.finishWith_ok (a b : Arch) : a.finishWith (.ok b) = b.finish .none := rfl

theorem State.complete_eq (s : State) (r : Except ErrCode Arch) :
    s.complete r = { s with arch := s.arch.finishWith r } := by
  cases r <;> rfl

theorem exec_eq_finishWith (i : Instr) (s : State) :
    exec i s = .next { s with arch := s.arch.finishWith (s.arch.result i) } := by
  rw [exec_eq, State.complete_eq]

theorem completion_eq (w : Word) (s : State) : completion w s = .next { s with arch := s.arch.completed w } := by
  rw [completion, Arch.completed, Arch.resultOf]
  cases decode w with
  | ok i => exact exec_eq_finishWith i s
  | error e => rfl

theorem completion_of_decode_ok {w : Word} {i : Instr} (h : decode w = .ok i) (s : State) :
    completion w s = exec i s := by
  rw [completion, h]

@[simp] theorem Arch.finishWith_done (a : Arch) (r : Except ErrCode Arch) : (a.finishWith r).done = true := by
  cases r <;> rfl

@[simp] theorem Arch.finishWith_fsm (a : Arch) (r : Except ErrCode Arch) : (a.finishWith r).fsm = .idle := by
  cases r <;> rfl

@[simp] theorem Arch.completed_done (a : Arch) (w : Word) : (a.completed w).done = true := a.finishWith_done _

@[simp] theorem Arch.completed_fsm (a : Arch) (w : Word) : (a.completed w).fsm = .idle := a.finishWith_fsm _

theorem ErrCode.toNat_le_five (c : ErrCode) : c.toNat ≤ 5 := by
  cases c <;> decide

/-- Settles O10: every word ends in `Arch.completed`, which sets DONE and Idle, and the rest of the state
stays. -/
theorem everyWordCompletes : Obligations.EveryWordCompletes := fun w s =>
  ⟨_, completion_eq w s, s.arch.completed_done w, s.arch.completed_fsm w, ErrCode.toNat_le_five _, rfl, rfl, rfl⟩

/-- Settles O17: NOP's result is the registers unchanged, so the completion writes STATUS and fsm. -/
theorem nopWritesOnlyStatus : Obligations.NopWritesOnlyStatus := by
  refine ⟨rfl, fun s => ?_⟩
  rw [exec_eq_finishWith, Arch.result, Arch.finishWith_ok, Arch.finish]

/-! ### Whose turn it is -/

/-- The completion of the latched word at the engine's turn. -/
theorem step_completes {s : State} {w : Word} (hf : s.arch.fsm = .busy w) (ht : s.pending = [] ∨ s.latency = 0) :
    step s = .next { s with arch := s.arch.completed w } := by
  rw [step_engine hf ht, completion_eq]

theorem step_waiting {s : State} (hf : s.arch.fsm = .idle) (hp : s.pending = []) : step s = .fault .awaitingHost := by
  rw [step, nextMove_waiting.2 ⟨hf, hp⟩]

/-- An agent that can move gives a next state. -/
theorem step_next_of_can_move {s : State} (h : ¬ (s.arch.fsm = .idle ∧ s.pending = [])) : ∃ t, step s = .next t := by
  cases hm : s.nextMove with
  | engine w => exact ⟨_, by rw [step, hm]; exact completion_eq w s⟩
  | host action rest => exact ⟨_, by rw [step, hm]⟩
  | waiting => exact absurd (nextMove_waiting.1 hm) h

/-- Settles O7: the engine's turn is the completion of the latched word, and `withFetchWord` latches the encoding with
latency 0. -/
theorem stepRunsTheDecodedCommand : Obligations.StepRunsTheDecodedCommand := by
  have hrun : ∀ (s : State) (w : Word) (i : Instr), s.arch.fsm = .busy w → (s.pending = [] ∨ s.latency = 0) →
      decode w = .ok i → step s = exec i s :=
    fun s w i hf ht hd => (step_engine hf ht).trans (completion_of_decode_ok hd s)
  refine ⟨hrun, fun s i => hrun _ (encode i) i ?_ (.inr rfl) (decode_encode i)⟩
  have hword : BitVec.ofNat 32 ((encode i).toNat % 2 ^ 32) = encode i := by
    rw [Nat.mod_eq_of_lt (encode i).isLt, BitVec.ofNat_toNat, BitVec.setWidth_eq]
  exact congrArg Fsm.busy hword

/-- Settles O8: `nextMove` answers the first pending action. -/
theorem stepTakesTheNextHostAction : Obligations.StepTakesTheNextHostAction := fun _ _ _ hp ht => step_host hp ht

/-- Settles O9: where an agent can move the step answers a next state, and only `waiting` is a fault. -/
theorem stepStopsExactlyWhenNobodyActs : Obligations.StepStopsExactlyWhenNobodyActs := by
  refine ⟨fun s => ⟨fun h => ?_, fun ⟨hf, hp⟩ => step_waiting hf hp⟩, fun s r h => ?_⟩
  · by_contra hmove
    obtain ⟨t, ht⟩ := step_next_of_can_move hmove
    cases h.symm.trans ht
  · by_cases hstop : s.arch.fsm = .idle ∧ s.pending = []
    · cases h.symm.trans (step_waiting hstop.1 hstop.2)
    · obtain ⟨t, ht⟩ := step_next_of_can_move hstop
      cases h.symm.trans ht

end Sys2Proof.Machine
end

section
/-! Writes at the host's turn (spec/20_memory.md R71, R72; spec/44_control.md R240). -/

namespace Sys2Proof.Machine

theorem Arch.BUSY_of_busy {a : Arch} {w : Word} (h : a.fsm = .busy w) : a.BUSY = true := by
  rw [Arch.BUSY, h]

theorem Arch.BUSY_of_idle {a : Arch} (h : a.fsm = .idle) : a.BUSY = false := by
  rw [Arch.BUSY, h]

/-- A supported write at the host's turn (R72). -/
theorem step_write {s : State} {off : Nat} {v : Word} {rest : List HostAction} (hoff : off < 4096)
    (halign : off % 4 = 0) (hp : s.pending = .write (Config.otpeBase + off) 4 v :: rest) (ht : s.hostTurn) :
    step s = .next (((s.advance rest).busWrite off v).respond { error := false, data := 0 }) := by
  rw [step_host hp ht, hostStep_write s off v rest hoff halign]

/-- A write to CMD while Idle (R240). -/
theorem step_write_cmd {s : State} {v : Word} {rest : List HostAction} (hf : s.arch.fsm = .idle)
    (hp : s.pending = .write (Config.otpeBase + 0x010) 4 v :: rest) :
    step s = .next (((s.advance rest).accept v).respond { error := false, data := 0 }) := by
  have hidle : (s.advance rest).arch.BUSY = false := Arch.BUSY_of_idle hf
  rw [step_write (by decide) (by decide) hp (.inl hf), busWrite_cmd _ v hidle]

/-- Settles O6: the write is an acceptance, and BUSY is bit 0 of STATUS. -/
theorem commandWriteWhileIdleIsAccepted : Obligations.CommandWriteWhileIdleIsAccepted := by
  intro s v rest hf hp
  refine ⟨_, step_write_cmd hf hp, rfl, ?_, Bool.and_false _, rfl, rfl⟩
  have hread : (s.arch.latch v).read 0x00C = (s.arch.latch v).statusWord := Arch.read_regOffset _ .status
  have hbusy : (s.arch.latch v).BUSY = true := rfl
  rw [State.respond_arch, State.accept_arch, State.advance_arch, hread, Arch.statusWord_getLsbD_low _ 0 (by decide),
    hbusy]
  simp

/-! ### Addresses outside the window (R71) -/

theorem windowOffset_eq_none {addr : Nat} (h : addr < Config.otpeBase ∨ Config.otpeBase + 4096 ≤ addr) :
    windowOffset addr = none := by
  rw [windowOffset, if_neg (by omega)]

theorem hostStep_outside (s : State) {addr size : Nat} {v : Word} {action : HostAction} (rest : List HostAction)
    (h : windowOffset addr = none) (ha : action = .read addr size ∨ action = .write addr size v) :
    s.hostStep action rest = s.advance rest := by
  rcases ha with rfl | rfl <;> simp only [State.hostStep, h]

/-- Settles O50: a transaction outside the window only takes its place in the order. -/
theorem addressesOutsideTheWindowDoNotReach : Obligations.AddressesOutsideTheWindowDoNotReach := by
  refine ⟨otpeBase_aligned, windowOffset_base, fun s addr size v action rest hout haction hp ht => ?_⟩
  refine ⟨s.advance rest, ?_, rfl, rfl⟩
  rw [step_host hp ht, hostStep_outside s rest (windowOffset_eq_none hout) haction]

end Sys2Proof.Machine
end

section
/-! Every command in one form: a check that may answer an error code, and the result writes behind it
(spec/44_control.md R241, R242; spec/60_exceptions.md R276). -/

namespace Sys2Proof.Machine

/-- The first error a command's check finds (R271, R272, R276). -/
def Arch.errorOf (a : Arch) : Instr → Option ErrCode
  | .nop | .zeroize => none
  | .trunc => if a.DINLEN ≠ 20 then some .inputLength else none
  | .hotpGen | .hotpVal => a.hotpError
  | .totpGen | .totpVal => a.totpError

/-- The registers with a command's result writes applied, whatever its check answers. -/
def Arch.writes (a : Arch) : Instr → Arch
  | .nop => a
  | .trunc => { a with truncVal := (dynTrunc a.Din).setWidth 31 }
  | .hotpGen => a.writeOtp a.K a.COUNTER64 a.DIGITS
  | .totpGen => (a.writeTctr (a.TIME64 / a.TS)).writeOtp a.K (a.TIME64 / a.TS) a.DIGITS
  | .hotpVal => a.afterHotpVal
  | .totpVal => a.afterTotpVal
  | .zeroize => a.zeroized

theorem Arch.result_eq (a : Arch) (i : Instr) : a.result i = resultUnless (a.errorOf i) (a.writes i) := by
  cases i with
  | trunc =>
    rw [Arch.result, Arch.truncResult, Arch.errorOf, Arch.writes]
    split_ifs <;> rfl
  | _ => rfl

/-- A command either writes its results, or an error code and nothing else. -/
theorem Arch.finishWith_result_cases (a : Arch) (i : Instr) :
    (a.errorOf i = none ∧ a.finishWith (a.result i) = (a.writes i).finish .none)
    ∨ ∃ code, a.errorOf i = some code ∧ a.finishWith (a.result i) = a.finish code := by
  rw [Arch.result_eq]
  cases a.errorOf i with
  | none => exact .inl ⟨rfl, rfl⟩
  | some code => exact .inr ⟨code, rfl, rfl⟩

theorem exec_inv {i : Instr} {s t : State} (h : exec i s = .next t) :
    t = { s with arch := s.arch.finishWith (s.arch.result i) } :=
  (Host.Outcome.next.inj ((exec_eq_finishWith i s).symm.trans h)).symm

/-! ### The error code (R276) -/

theorem Arch.finishWith_result_errCode (a : Arch) (i : Instr) :
    (a.finishWith (a.result i)).errCode = (a.errorOf i).getD .none := by
  rcases a.finishWith_result_cases i with ⟨herr, hres⟩ | ⟨code, herr, hres⟩ <;> rw [hres, herr] <;> rfl

theorem digitsLegal_eq_false_iff (a : Arch) : a.digitsLegal = false ↔ a.DIGITS < 1 ∨ 9 < a.DIGITS := by
  rw [← Bool.not_eq_true, digitsLegal_iff]
  omega

/-- Settles O33: the code is the first error of the command's check, whose order is the rule's. -/
theorem errorCodeIsTheFirstCause : Obligations.ErrorCodeIsTheFirstCause := by
  intro s t i h
  rw [exec_inv h, Arch.finishWith_result_errCode]
  cases i with
  | nop | zeroize => rfl
  | trunc => exact apply_ite (Option.getD · ErrCode.none) ..
  | hotpGen | hotpVal =>
    simp only [Arch.errorOf, Arch.hotpError, Bool.not_eq_true', digitsLegal_eq_false_iff]
    split_ifs <;> rfl
  | totpGen | totpVal =>
    simp only [Arch.errorOf, Arch.totpError, Bool.not_eq_true', digitsLegal_eq_false_iff]
    split_ifs <;> rfl

/-! ### What every command leaves (R30, R216) -/

theorem Arch.writes_operands (a : Arch) {i : Instr} (h : i ≠ .zeroize) : (a.writes i).operands = a.operands := by
  cases i with
  | zeroize => exact absurd rfl h
  | _ => rfl

/-- CFG, TIME_STEP, COUNTER, TIME, IRQ_EN and IGNORED, which not even ZEROIZE writes. -/
structure KeptRegs where
  digits    : BitVec 4
  lookahead : Byte
  timeStep  : Word
  counter   : Nat
  time      : Nat
  irqEn     : Bool
  ignored   : Bool

/-- The registers of a state that no command writes. -/
def Arch.kept (a : Arch) : KeptRegs :=
  { digits := a.digits, lookahead := a.lookahead, timeStep := a.timeStep, counter := a.COUNTER64, time := a.TIME64,
    irqEn := a.irqEn, ignored := a.ignored }

theorem Arch.writes_kept (a : Arch) (i : Instr) : (a.writes i).kept = a.kept := by
  cases i <;> rfl

theorem Arch.finishWith_result_operands (a : Arch) {i : Instr} (h : i ≠ .zeroize) :
    (a.finishWith (a.result i)).operands = a.operands := by
  rcases a.finishWith_result_cases i with ⟨-, hres⟩ | ⟨code, -, hres⟩ <;> rw [hres, Arch.finish_operands]
  exact a.writes_operands h

theorem Arch.finishWith_result_kept (a : Arch) (i : Instr) : (a.finishWith (a.result i)).kept = a.kept := by
  rcases a.finishWith_result_cases i with ⟨-, hres⟩ | ⟨code, -, hres⟩ <;> rw [hres]
  · exact a.writes_kept i
  · rfl

/-- Settles O34: neither the result writes nor the completion touch the kept registers, and only ZEROIZE writes an
operand. -/
theorem commandsKeepOperandsAndControl : Obligations.CommandsKeepOperandsAndControl := by
  intro i s t h
  obtain rfl := exec_inv h
  have hkept := s.arch.finishWith_result_kept i
  exact ⟨s.arch.finishWith_result_operands, congrArg KeptRegs.digits hkept, congrArg KeptRegs.lookahead hkept,
    congrArg KeptRegs.timeStep hkept, congrArg KeptRegs.counter hkept, congrArg KeptRegs.time hkept,
    congrArg KeptRegs.irqEn hkept, congrArg KeptRegs.ignored hkept, rfl, rfl, rfl, rfl⟩

/-! ### Registers a command does not see -/

theorem resultUnless_map (e : Option ErrCode) (a : Arch) (f : Arch → Arch) :
    (resultUnless e a).map f = resultUnless e (f a) := by
  cases e <;> rfl

/-- The registers with IRQ_EN, DONE and IGNORED replaced: what the hosts may change while the engine is Busy. -/
def Arch.withFlags (a : Arch) (irqEn done ignored : Bool) : Arch :=
  { a with irqEn := irqEn, done := done, ignored := ignored }

/-- No command sees IRQ_EN, DONE or IGNORED. -/
theorem Arch.result_withFlags (a : Arch) (irqEn done ignored : Bool) (i : Instr) :
    (a.withFlags irqEn done ignored).result i = (a.result i).map (·.withFlags irqEn done ignored) := by
  rw [Arch.result_eq, Arch.result_eq, resultUnless_map]
  cases i <;> rfl

/-- A completion sets DONE and keeps the other two flags. -/
theorem Arch.completed_withFlags (a : Arch) (irqEn done ignored : Bool) (w : Word) :
    (a.withFlags irqEn done ignored).completed w = (a.completed w).withFlags irqEn true ignored := by
  rw [Arch.completed, Arch.completed, Arch.resultOf, Arch.resultOf]
  cases decode w with
  | error e => rfl
  | ok i =>
    simp only [Arch.result_withFlags]
    cases a.result i <;> rfl

/-- The registers with the key buffer replaced. -/
def Arch.withKey (a : Arch) (key : Vector Word 16) : Arch := { a with key := key }

theorem Arch.withKey_K {a : Arch} {key : Vector Word 16}
    (h : ∀ j < a.KEYLEN, bufByte key.toList j = bufByte a.key.toList j) : (a.withKey key).K = a.K :=
  List.map_congr_left fun j hj => h j (List.mem_range.1 hj)

theorem Arch.matchesAt_withKey {a : Arch} {key : Vector Word 16} (h : (a.withKey key).K = a.K) (c : Nat) :
    (a.withKey key).matchesAt c ↔ a.matchesAt c := by
  rw [Arch.matchesAt, h]
  exact Iff.rfl

/-- The commands see of the key buffer only `K` (R103), and none but ZEROIZE writes it. -/
theorem Arch.writes_withKey {a : Arch} {key : Vector Word 16} (h : (a.withKey key).K = a.K) {i : Instr}
    (hi : i ≠ .zeroize) : (a.withKey key).writes i = (a.writes i).withKey key := by
  have hscan (w : List (Nat × Nat)) : (a.withKey key).scan w = a.scan w :=
    Arch.scan_congr fun p _ => Arch.matchesAt_withKey h p.2
  cases i with
  | nop | trunc => rfl
  | hotpGen | totpGen => rw [Arch.writes, h]; rfl
  | hotpVal => rw [Arch.writes, Arch.afterHotpVal, hscan]; rfl
  | totpVal => rw [Arch.writes, Arch.afterTotpVal, hscan]; rfl
  | zeroize => exact absurd rfl hi

theorem Arch.errorOf_withKey (a : Arch) (key : Vector Word 16) (i : Instr) :
    (a.withKey key).errorOf i = a.errorOf i := by
  cases i <;> rfl

/-- Another key buffer with the same `K` shows after a command at most in the key buffer. -/
theorem Arch.finishWith_result_withKey {a : Arch} {key : Vector Word 16} (h : (a.withKey key).K = a.K) (i : Instr) :
    ∃ key', (a.withKey key).finishWith ((a.withKey key).result i) = (a.finishWith (a.result i)).withKey key' := by
  by_cases hi : i = .zeroize
  · subst hi
    exact ⟨Vector.replicate 16 0, rfl⟩
  · refine ⟨key, ?_⟩
    rw [Arch.result_eq, Arch.result_eq, Arch.errorOf_withKey, Arch.writes_withKey h hi]
    cases a.errorOf i <;> rfl

/-- Settles O25: ZEROIZE clears the key buffer whatever it holds, and every other command sees of it only `K`. -/
theorem keyBytesPastTheLengthAreIgnored : Obligations.KeyBytesPastTheLengthAreIgnored := by
  intro s key' i t t' hkey ht ht'
  obtain ⟨key'', hrun⟩ := Arch.finishWith_result_withKey (Arch.withKey_K hkey) i
  have harch' : t'.arch = (s.arch.finishWith (s.arch.result i)).withKey key'' :=
    (congrArg State.arch (exec_inv ht')).trans hrun
  rw [harch', exec_inv ht', exec_inv ht]
  exact congrArg (fun b => { s with arch := b }) hrun

end Sys2Proof.Machine
end

section
/-! Runs of several steps, and everything a host action can do (spec/20_memory.md R81; spec/44_control.md R243). -/

namespace Sys2Proof.Machine

theorem runsTo_zero (s : State) : runsTo 0 s s := rfl

theorem run_succ_of_next {s t : State} (k : Nat) (h : step s = .next t) :
    Sys2Proof.core.run (k + 1) s = Sys2Proof.core.run k t := by
  have hcore : Sys2Proof.core.step s = .next t := h
  simp only [Host.Core.run, hcore]

theorem runsTo_succ {k : Nat} {s t u : State} (hs : step s = .next t) (hr : runsTo k t u) : runsTo (k + 1) s u :=
  (run_succ_of_next k hs).trans hr

theorem runsTo_one {s t : State} (h : step s = .next t) : runsTo 1 s t := runsTo_succ h (runsTo_zero t)

/-- A read, a transaction outside the window and an unsupported one leave the registers and the latency drawn; a `POLL`
may stay the next action (R107). -/
def State.observed (s : State) (pending : List HostAction) (resp : Option BusResponse) : State :=
  { s with pending := pending, resp := resp }

/-- Everything one action of the outside world can do. -/
theorem hostStep_cases (s : State) (action : HostAction) (rest : List HostAction) :
    (action = .resetInput ∧ s.hostStep action rest = (s.advance rest).resetArch)
    ∨ (∃ addr size v off, action = .write addr size v ∧ windowOffset addr = some off
        ∧ s.hostStep action rest = ((s.advance rest).busWrite off v).respond { error := false, data := 0 })
    ∨ ∃ pending resp, (pending = rest ∨ pending = action :: rest)
        ∧ s.hostStep action rest = (s.advance rest).observed pending resp := by
  cases action with
  | resetInput => exact .inl ⟨rfl, rfl⟩
  | read addr size =>
    refine .inr (.inr ⟨rest, ?_⟩)
    cases hw : windowOffset addr with
    | none => exact ⟨s.resp, .inl rfl, by simp only [State.hostStep, hw]; rfl⟩
    | some off => exact ⟨_, .inl rfl, by simp only [State.hostStep, hw]; rfl⟩
  | poll addr mask value =>
    refine .inr (.inr ?_)
    cases hw : windowOffset addr with
    | none => exact ⟨rest, s.resp, .inl rfl, by simp only [State.hostStep, hw]; rfl⟩
    | some off =>
      by_cases hv : (s.arch.busRead off 4).data &&& mask = value
      · exact ⟨rest, _, .inl rfl, by simp only [State.hostStep, hw, if_pos hv]; rfl⟩
      · exact ⟨_, _, .inr rfl, by simp only [State.hostStep, hw, if_neg hv]; rfl⟩
  | write addr size v =>
    cases hw : windowOffset addr with
    | none => exact .inr (.inr ⟨rest, s.resp, .inl rfl, by simp only [State.hostStep, hw]; rfl⟩)
    | some off =>
      by_cases hb : busSupported off size = true
      · exact .inr (.inl ⟨addr, size, v, off, rfl, hw, by simp only [State.hostStep, hw, State.hostWrite, if_pos hb]⟩)
      · exact .inr (.inr ⟨rest, _, .inl rfl, by simp only [State.hostStep, hw, State.hostWrite, if_neg hb]; rfl⟩)

/-- The host actions that discard the command in flight: the reset input and a write of 1 to CTRL.SRST (R300). -/
def discardsCommand (action : HostAction) : Prop :=
  action = .resetInput
    ∨ ∃ addr size v, action = .write addr size v ∧ windowOffset addr = some (regOffset .ctrl) ∧ v.getLsbD 1 = true

theorem State.noResetPending.not_discards {s : State} (h : s.noResetPending) :
    ∀ action ∈ s.pending, ¬ discardsCommand action := by
  rintro action hmem (hreset | ⟨addr, size, v, hwrite, hctrl, hsrst⟩)
  · exact (h action hmem).1 hreset
  · exact Bool.false_ne_true (((h action hmem).2 addr size v hwrite hctrl).symm.trans hsrst)

/-- While Busy a write at an aligned offset resets the block, or changes at most IRQ_EN, DONE and IGNORED (R243). -/
theorem busWrite_busy_cases {s : State} (hb : s.arch.BUSY = true) (off : Nat) (v : Word) :
    (off = 0x008 ∧ v.getLsbD 1 = true ∧ s.busWrite off v = s.resetArch)
    ∨ ∃ irqEn done ignored, s.busWrite off v = { s with arch := s.arch.withFlags irqEn done ignored } := by
  rcases busWrite_cases s off v with h | ⟨-, -, h⟩ | ⟨-, h⟩ | ⟨-, -, -, h⟩ | ⟨-, hi, -⟩ | ⟨hi, -⟩ | ⟨hi, -⟩
  · exact .inl h
  · exact .inr ⟨_, _, _, h⟩
  · exact .inr ⟨_, _, _, h⟩
  · exact .inr ⟨_, _, _, h⟩
  all_goals exact absurd (hb.symm.trans hi) Bool.true_eq_false_eq_False

/-- While Busy a host action discards the command, or it changes at most IRQ_EN, DONE and IGNORED, counts as one step
of the latency, and is taken off the list unless it is a `POLL` that waits on. -/
theorem hostStep_busy {s : State} (hb : s.arch.BUSY = true) (action : HostAction) (rest : List HostAction) :
    (discardsCommand action ∧ (s.hostStep action rest).arch = Arch.reset)
    ∨ ((∃ irqEn done ignored, (s.hostStep action rest).arch = s.arch.withFlags irqEn done ignored)
        ∧ (s.hostStep action rest).latency = s.latency - 1
        ∧ ((s.hostStep action rest).pending = rest ∨ (s.hostStep action rest).pending = action :: rest)) := by
  rcases hostStep_cases s action rest with ⟨hr, h⟩ | ⟨addr, size, v, off, ha, hw, h⟩ | ⟨pending, resp, hp, h⟩
  · exact .inl ⟨.inl hr, by rw [h]; rfl⟩
  · rcases busWrite_busy_cases (s := s.advance rest) hb off v with ⟨ho, hv, hbw⟩ | ⟨irqEn, done, ignored, hbw⟩
    · exact .inl ⟨.inr ⟨addr, size, v, ha, hw.trans (congrArg some ho), hv⟩, by rw [h, hbw]; rfl⟩
    · rw [h, hbw]
      exact .inr ⟨⟨irqEn, done, ignored, rfl⟩, rfl, .inl rfl⟩
  · rw [h]
    exact .inr ⟨⟨s.arch.irqEn, s.arch.done, s.arch.ignored, rfl⟩, rfl, hp⟩

end Sys2Proof.Machine
end

section
/-! A command in flight (spec/44_control.md R241, R243, R248; spec/70_reset_and_hazards.md R300, R305). -/

namespace Sys2Proof.Machine

/-- Within `n + 1` steps the command `w` in flight in `s` is discarded or completes; where no pending action discards
it, the completion is that of the registers of `s`, except for IRQ_EN and IGNORED. -/
def State.endsWithin (s : State) (w : Word) (n : Nat) : Prop :=
  ∃ k t, k ≤ n ∧ runsTo (k + 1) s t ∧ t.arch.fsm = .idle
    ∧ ((∀ action ∈ s.pending, ¬ discardsCommand action) →
        ∃ irqEn ignored, t.arch = (s.arch.completed w).withFlags irqEn true ignored)

theorem endsWithin_of_engine_turn {s : State} {w : Word} (hf : s.arch.fsm = .busy w)
    (hturn : s.pending = [] ∨ s.latency = 0) (n : Nat) : s.endsWithin w n :=
  ⟨0, _, n.zero_le, runsTo_one (step_completes hf hturn), s.arch.completed_fsm w, fun _ =>
    ⟨s.arch.irqEn, s.arch.ignored, s.arch.completed_withFlags s.arch.irqEn s.arch.done s.arch.ignored w⟩⟩

theorem endsWithin_of_discard {s t : State} {action : HostAction} (w : Word) (hstep : step s = .next t)
    (hreset : t.arch = Arch.reset) (hmem : action ∈ s.pending) (hdiscards : discardsCommand action) (n : Nat) :
    s.endsWithin w n :=
  ⟨0, t, n.zero_le, runsTo_one hstep, congrArg Arch.fsm hreset, fun hnone => absurd hdiscards (hnone action hmem)⟩

/-- A step that changes only the three flags and adds no action passes the end on. -/
theorem endsWithin_of_step {s u : State} {w : Word} {n : Nat} {irqEn done ignored : Bool} (hstep : step s = .next u)
    (harch : u.arch = s.arch.withFlags irqEn done ignored) (hpending : u.pending ⊆ s.pending)
    (h : u.endsWithin w n) : s.endsWithin w (n + 1) := by
  obtain ⟨k, t, hk, hrun, hidle, hcompleted⟩ := h
  refine ⟨k + 1, t, by omega, runsTo_succ hstep hrun, hidle, fun hnone => ?_⟩
  obtain ⟨irqEn', ignored', ht⟩ := hcompleted fun action hmem => hnone action (hpending hmem)
  rw [harch, Arch.completed_withFlags] at ht
  exact ⟨irqEn', ignored', ht⟩

/-- Every command in flight ends within its latency (R248). -/
theorem busy_endsWithin (n : Nat) {s : State} {w : Word} (hf : s.arch.fsm = .busy w) (hn : s.latency = n) :
    s.endsWithin w n := by
  induction n generalizing s with
  | zero => exact endsWithin_of_engine_turn hf (.inr hn) 0
  | succ n ih =>
    cases hp : s.pending with
    | nil => exact endsWithin_of_engine_turn hf (.inl hp) _
    | cons action rest =>
      have hstep := step_host hp (.inr (by omega))
      rcases hostStep_busy (Arch.BUSY_of_busy hf) action rest with
        ⟨hdiscards, hreset⟩ | ⟨⟨irqEn, done, ignored, harch⟩, hlat, hpending⟩
      · exact endsWithin_of_discard w hstep hreset (hp ▸ List.mem_cons_self) hdiscards _
      · refine endsWithin_of_step hstep harch ?_ (ih ((congrArg Arch.fsm harch).trans hf) (by omega))
        rcases hpending with hnext | hnext <;> rw [hnext, hp]
        · exact List.subset_cons_self action rest
        · exact List.Subset.refl _

/-- Settles O12: the run that ends the command ends it in Idle. -/
theorem busyEngineBecomesIdle : Obligations.BusyEngineBecomesIdle := by
  intro s w hf
  obtain ⟨k, t, hk, hrun, hidle, -⟩ := busy_endsWithin s.latency hf rfl
  exact ⟨k + 1, t, by omega, hrun, hidle⟩

theorem Arch.withFlags_of_done {a : Arch} (h : a.done = true) (irqEn ignored : Bool) :
    a.withFlags irqEn true ignored = { a with irqEn := irqEn, ignored := ignored } := by
  rw [Arch.withFlags, ← h]

/-- Settles O13: without a reset pending, the command ends in the completion of the registers at its acceptance. -/
theorem commandCompletesOnOperandsAtAcceptance : Obligations.CommandCompletesOnOperandsAtAcceptance := by
  intro s w hf hreset
  obtain ⟨k, t, hk, hrun, hidle, hcompleted⟩ := busy_endsWithin s.latency hf rfl
  obtain ⟨irqEn, ignored, harch⟩ := hcompleted hreset.not_discards
  refine ⟨k, t, _, hk, hrun, completion_eq w s, hidle, congrArg Arch.done harch, ?_⟩
  rw [harch]
  exact Arch.withFlags_of_done (s.arch.completed_done w) irqEn ignored

/-- Settles O14: a completion and a discarding action leave Idle, and any other host action changes flags alone. -/
theorem busyStepsFreezeOperandsAndResults : Obligations.BusyStepsFreezeOperandsAndResults := by
  intro s t w hf hstep hbusy
  rcases step_cases hstep with ⟨v, i, -, -, rfl⟩ | ⟨v, e, -, -, rfl⟩ | ⟨action, rest, -, rfl⟩
  · rw [State.complete_eq] at hbusy
    exact absurd (Arch.finishWith_fsm ..) hbusy
  · exact absurd rfl hbusy
  · rcases hostStep_busy (Arch.BUSY_of_busy hf) action rest with ⟨-, hreset⟩ | ⟨⟨irqEn, done, ignored, harch⟩, -, -⟩
    · exact absurd (congrArg Arch.fsm hreset) hbusy
    · rw [harch]
      exact ⟨hf, rfl, ⟨rfl, rfl, rfl⟩, rfl⟩

/-! ### A write that races the completion (R305) -/

theorem Arch.completed_encode (a : Arch) (i : Instr) : a.completed (encode i) = a.finishWith (a.result i) := by
  rw [Arch.completed, Arch.resultOf, decode_encode]

/-- The write comes first: it is dropped, and then the command completes. -/
theorem run_dropped_write {s : State} {w v : Word} {off : Nat} (hoff : off < 4096) (halign : off % 4 = 0)
    (hctrl : off ≠ 0x008) (hstatus : off ≠ 0x00C) (hf : s.arch.fsm = .busy w) (hl : s.latency ≠ 0)
    (hp : s.pending = [.write (Config.otpeBase + off) 4 v]) :
    ∃ t, runsTo 2 s t ∧ t.arch = (s.arch.completed w).withFlags s.arch.irqEn true true := by
  have hb : (s.advance []).arch.BUSY = true := Arch.BUSY_of_busy hf
  have hfirst := step_write hoff halign hp (.inr hl)
  rw [busWrite_busy _ _ v hb hctrl hstatus] at hfirst
  refine ⟨_, runsTo_succ hfirst (runsTo_one (step_completes hf (.inl rfl))), ?_⟩
  exact s.arch.completed_withFlags s.arch.irqEn s.arch.done true w

/-- The completion comes first, and the engine is Idle when the write is taken. -/
theorem run_write_after_completion {s : State} {w v : Word} {r : Reg} (hr : r ≠ .ctrl ∧ r ≠ .status ∧ r ≠ .cmd)
    (hf : s.arch.fsm = .busy w) (hl : s.latency = 0)
    (hp : s.pending = [.write (Config.otpeBase + regOffset r) 4 v]) :
    ∃ t, runsTo 2 s t ∧ t.arch = (s.arch.completed w).store v r := by
  have hfirst := step_completes hf (.inr hl)
  have hidle : (s.arch.completed w).BUSY = false := Arch.BUSY_of_idle (s.arch.completed_fsm w)
  have hsecond := step_write (s := { s with arch := s.arch.completed w }) (regOffset_lt r).1 (regOffset_lt r).2 hp
    (.inl (s.arch.completed_fsm w))
  rw [busWrite_idle _ r v hidle hr] at hsecond
  exact ⟨_, runsTo_succ hfirst (runsTo_one hsecond), rfl⟩

/-- Settles O15: both orders complete the same registers; in the first the write sets IGNORED, in the second it is
stored. -/
theorem writeRacingACompletionHasBothOutcomes : Obligations.WriteRacingACompletionHasBothOutcomes := by
  intro s v hf hign hp
  obtain ⟨t, hrun, ht⟩ := run_dropped_write (s := { s with latency := 1 }) (off := 0x020) (by decide) (by decide)
    (by decide) (by decide) hf Nat.one_ne_zero hp
  obtain ⟨u, hrun', hu⟩ := run_write_after_completion (s := { s with latency := 0 }) (r := .counterLo)
    (by decide) hf rfl hp
  have hop : (s.arch.completed (encode .hotpGen)).operands = s.arch.operands := by
    rw [Arch.completed_encode]
    exact s.arch.finishWith_result_operands (by decide)
  have hkept : (s.arch.completed (encode .hotpGen)).kept = s.arch.kept := by
    rw [Arch.completed_encode]
    exact s.arch.finishWith_result_kept _
  have hidle := s.arch.completed_fsm (encode .hotpGen)
  refine ⟨t, u, hrun, hrun', ?_⟩
  rw [ht, hu]
  exact ⟨rfl, congrArg Operands.counterLo hop, (congrArg KeptRegs.ignored hkept).trans hign, rfl, rfl, rfl, hidle,
    hidle⟩

end Sys2Proof.Machine
end

section
/-! The values registers read as (spec/10_state.md R21 to R42), and reads after an update of the registers. -/

namespace Sys2Proof.Machine

theorem Arch.read_of_regAt_none (a : Arch) {off : Nat} (h : regAt off = none) : a.read off = 0 := by
  rw [Arch.read, h]

/-- An offset is a named register's, or it is reserved. -/
theorem offset_cases (off : Nat) : regAt off = none ∨ ∃ r, off = regOffset r := by
  cases h : regAt off with
  | none => exact .inl rfl
  | some r => exact .inr ⟨r, regAt_eq_some.1 h⟩

/-- Two register states that agree on the named registers at an offset read alike there. -/
theorem Arch.read_congr {a b : Arch} {off : Nat} (h : ∀ r, off = regOffset r → a.readReg r = b.readReg r) :
    a.read off = b.read off := by
  rcases offset_cases off with hnone | ⟨r, rfl⟩
  · rw [Arch.read_of_regAt_none a hnone, Arch.read_of_regAt_none b hnone]
  · rw [Arch.read_regOffset, Arch.read_regOffset, h r rfl]

/-! ### Fields in a word -/

/-- A field shifted above the bits below it adds to them. -/
theorem toNat_or_shiftLeft {x y : Word} {n : Nat} (hx : x.toNat < 2 ^ n) (hy : y.toNat * 2 ^ n < 2 ^ 32) :
    (x ||| y <<< n).toNat = x.toNat + 2 ^ n * y.toNat := by
  rw [BitVec.toNat_or, BitVec.toNat_shiftLeft, Nat.shiftLeft_eq, Nat.mod_eq_of_lt hy, Nat.mul_comm, Nat.lor_comm,
    ← Nat.two_pow_add_eq_or_of_lt hx, Nat.add_comm]

/-- A field narrower than the word reads as its value. -/
theorem toNat_setWidth_word {n : Nat} (x : BitVec n) (h : n ≤ 32) : (x.setWidth 32).toNat = x.toNat :=
  BitVec.toNat_setWidth_of_le h

theorem Arch.readReg_cfg_toNat (a : Arch) : (a.readReg .cfg).toNat = a.DIGITS + 2 ^ 8 * a.LOOKAHEAD := by
  have hd := a.digits.isLt
  have hl := a.lookahead.isLt
  have hdigits : (a.digits.setWidth 32).toNat = a.DIGITS := toNat_setWidth_word _ (by decide)
  have hlook : (a.lookahead.setWidth 32).toNat = a.LOOKAHEAD := toNat_setWidth_word _ (by decide)
  rw [Arch.readReg, toNat_or_shiftLeft (by rw [hdigits, Arch.DIGITS]; omega) (by rw [hlook, Arch.LOOKAHEAD]; omega),
    hdigits, hlook]

theorem Arch.vresWord_toNat (a : Arch) : a.vresWord.toNat
    = (if a.valid then 1 else 0) + 2 ^ 8 * a.matchIdx.toNat + 2 ^ 16 * a.ntried.toNat := by
  have hm := a.matchIdx.isLt
  have hn := a.ntried.isLt
  have hvalid : (flagBit a.valid 0).toNat = if a.valid then 1 else 0 := flagBit_toNat a.valid 0 (by decide)
  have hidx : (a.matchIdx.setWidth 32).toNat = a.matchIdx.toNat := toNat_setWidth_word _ (by decide)
  have htried : (a.ntried.setWidth 32).toNat = a.ntried.toNat := toNat_setWidth_word _ (by decide)
  have hlow : (flagBit a.valid 0 ||| a.matchIdx.setWidth 32 <<< 8).toNat
      = (if a.valid then 1 else 0) + 2 ^ 8 * a.matchIdx.toNat := by
    rw [toNat_or_shiftLeft (by rw [hvalid]; split <;> decide) (by omega), hvalid, hidx]
  rw [Arch.vresWord, toNat_or_shiftLeft (by rw [hlow]; split <;> omega) (by omega), hlow, htried]

/-- STATUS as a number (R25): each flag in its bit, ERR_CODE from bit 8 on. -/
theorem Arch.statusWord_toNat (a : Arch) : a.statusWord.toNat = (if a.BUSY then 1 else 0) + (if a.done then 2 else 0)
    + (if a.errCode.toNat ≠ 0 then 4 else 0) + (if a.ignored then 8 else 0) + 2 ^ 8 * a.errCode.toNat := by
  rw [Arch.statusWord, Arch.ERR]
  cases a.BUSY <;> cases a.done <;> cases a.ignored <;> cases a.errCode <;> rfl

theorem pairValue_mod (hi lo : Word) : pairValue hi lo % 2 ^ 32 = lo.toNat := by
  rw [pairValue, Nat.mul_add_mod, Nat.mod_eq_of_lt lo.isLt]

theorem pairValue_div (hi lo : Word) : pairValue hi lo / 2 ^ 32 = hi.toNat := by
  rw [pairValue, Nat.mul_add_div (by decide), Nat.div_eq_of_lt lo.isLt, Nat.add_zero]

/-- Settles O51: each offset is a named register's, and its read is the register's field or constant. -/
theorem registerReadLayouts : Obligations.RegisterReadLayouts := by
  intro a
  have hread := a.read_regOffset
  have htrunc : (a.read 0x100).toNat = a.truncVal.toNat :=
    (congrArg BitVec.toNat (hread .truncVal)).trans (toNat_setWidth_word a.truncVal (by decide))
  have hbin : (a.read 0x104).toNat = a.otpBin.toNat :=
    (congrArg BitVec.toNat (hread .otpBin)).trans (toNat_setWidth_word a.otpBin (by decide))
  have hlen : (a.read 0x108).toNat = a.otpLen.toNat :=
    (congrArg BitVec.toNat (hread .otpLen)).trans (toNat_setWidth_word a.otpLen (by decide))
  refine ⟨hread .id, hread .version, hread .cmd, (congrArg BitVec.toNat (hread .cfg)).trans a.readReg_cfg_toNat,
    (congrArg BitVec.toNat (hread .vres)).trans a.vresWord_toNat, htrunc, hbin, hlen, htrunc ▸ a.truncVal.isLt,
    hbin ▸ a.otpBin.isLt, hlen ▸ a.otpLen.isLt, fun k => hread (.otpAscii k), ?_, ?_, ?_, ?_⟩
  · exact (congrArg BitVec.toNat (hread .tctrLo)).trans (pairValue_mod a.tctrHi a.tctrLo).symm
  · exact (congrArg BitVec.toNat (hread .tctrHi)).trans (pairValue_div a.tctrHi a.tctrLo).symm
  · exact (congrArg BitVec.toNat (hread .matchCtrLo)).trans (pairValue_mod a.matchCtrHi a.matchCtrLo).symm
  · exact (congrArg BitVec.toNat (hread .matchCtrHi)).trans (pairValue_div a.matchCtrHi a.matchCtrLo).symm

end Sys2Proof.Machine
end

section
/-! The registers a command writes, by their offsets (the "Registers written" lines of spec/41_truncation.md R166,
spec/42_otp_generate.md R181, R183, spec/43_validate.md R213, R215, spec/44_control.md R244, R245). -/

namespace Sys2Proof.Machine

theorem Arch.finish_readReg (a : Arch) (c : ErrCode) {r : Reg} (h : regOffset r ≠ 0x00C) :
    (a.finish c).readReg r = a.readReg r := by
  cases r with
  | status => exact absurd rfl h
  | _ => rfl

theorem Arch.writeTrunc_readReg (a : Arch) (v : BitVec 31) {r : Reg} (h : regOffset r ≠ 0x100) :
    ({ a with truncVal := v }).readReg r = a.readReg r := by
  cases r with
  | truncVal => exact absurd rfl h
  | _ => rfl

theorem Arch.writeOtp_readReg (a : Arch) (k : List Byte) (c n : Nat) {r : Reg}
    (h : regOffset r ∉ [0x100, 0x104, 0x108, 0x110, 0x114, 0x118]) :
    (a.writeOtp k c n).readReg r = a.readReg r := by
  cases r with
  | truncVal | otpBin | otpLen => exact absurd (by decide) h
  | otpAscii k =>
    refine absurd ?_ h
    revert k
    decide
  | _ => rfl

theorem Arch.writeTctr_readReg (a : Arch) (c : Nat) {r : Reg} (h : regOffset r ∉ [0x120, 0x124]) :
    (a.writeTctr c).readReg r = a.readReg r := by
  cases r with
  | tctrLo | tctrHi => exact absurd (by decide) h
  | _ => rfl

theorem Arch.writeVres_readReg (a : Arch) (w : List (Nat × Nat)) (m : Match) {r : Reg}
    (h : regOffset r ∉ [0x128, 0x130, 0x134]) : (a.writeVres w m).readReg r = a.readReg r := by
  cases r with
  | vres | matchCtrLo | matchCtrHi => exact absurd (by decide) h
  | _ => rfl

theorem Arch.zeroized_readReg (a : Arch) {r : Reg} (h : regOffset r ∉ writtenOffsets .zeroize) :
    a.zeroized.readReg r = a.readReg r := by
  cases r with
  | keyLen | candLen | dinLen | truncVal | otpBin | otpLen | tctrLo | tctrHi | vres | matchCtrLo | matchCtrHi =>
    exact absurd (by decide) h
  | cand k | din k | otpAscii k =>
    refine absurd ?_ h
    revert k
    decide
  | _ => rfl

/-- A command's result writes stay within its list of registers. -/
theorem Arch.writes_readReg (a : Arch) (i : Instr) {r : Reg} (h : regOffset r ∉ writtenOffsets i) :
    (a.writes i).readReg r = a.readReg r := by
  have hsub {l : List Nat} (hl : l ⊆ writtenOffsets i) : regOffset r ∉ l := fun hmem => h (hl hmem)
  cases i with
  | nop => rfl
  | trunc => exact a.writeTrunc_readReg _ (List.ne_of_not_mem_cons (hsub (l := [0x100]) (by decide)))
  | hotpGen => exact a.writeOtp_readReg _ _ _ (hsub (by decide))
  | totpGen =>
    exact (Arch.writeOtp_readReg _ _ _ _ (hsub (by decide))).trans (a.writeTctr_readReg _ (hsub (by decide)))
  | hotpVal => exact a.writeVres_readReg _ _ (hsub (by decide))
  | totpVal => exact (Arch.writeVres_readReg _ _ _ (hsub (by decide))).trans (a.writeTctr_readReg _ (hsub (by decide)))
  | zeroize => exact a.zeroized_readReg h

/-- Every command writes STATUS. -/
theorem status_mem_writtenOffsets (i : Instr) : 0x00C ∈ writtenOffsets i := by
  cases i <;> decide

/-- Settles O35: a completion writes STATUS, and before it a success the registers of the command's list. -/
theorem commandsWriteOnlyTheirRegisters : Obligations.CommandsWriteOnlyTheirRegisters := by
  intro i s t off hexec hoff
  obtain rfl := exec_inv hexec
  refine Arch.read_congr fun r hr => ?_
  subst hr
  have hstatus : regOffset r ≠ 0x00C := fun h => hoff (h ▸ status_mem_writtenOffsets i)
  rcases s.arch.finishWith_result_cases i with ⟨-, hres⟩ | ⟨code, -, hres⟩ <;>
    rw [hres, Arch.finish_readReg _ _ hstatus]
  exact s.arch.writes_readReg i hoff

end Sys2Proof.Machine
end

section
/-! Writes to CTRL and STATUS, resets, and writes that are dropped or ignored (spec/10_state.md R24, R25, R43, R49;
spec/44_control.md R243; spec/70_reset_and_hazards.md R300, R301). -/

namespace Sys2Proof.Machine

/-! ### Reset (R49) -/

theorem Arch.reset_readReg (r : Reg) : Arch.reset.readReg r =
    if regOffset r = 0x000 then 0x4F545045 else if regOffset r = 0x004 then 0x00010000
    else if regOffset r = 0x014 then 0x00000306 else if regOffset r = 0x018 then 0x0000001E else 0 := by
  cases r with
  | cand k | din k | key k | otpAscii k =>
    revert k
    decide
  | _ => decide

theorem Arch.reset_read (off : Nat) : Arch.reset.read off =
    if off = 0x000 then 0x4F545045 else if off = 0x004 then 0x00010000
    else if off = 0x014 then 0x00000306 else if off = 0x018 then 0x0000001E else 0 := by
  rcases offset_cases off with hnone | ⟨r, rfl⟩
  · have hne (r : Reg) : off ≠ regOffset r := fun h => Option.some_ne_none r ((regAt_eq_some.2 h).symm.trans hnone)
    rw [Arch.read_of_regAt_none _ hnone]
    exact (((if_neg (hne .id)).trans (if_neg (hne .version))).trans
      ((if_neg (hne .cfg)).trans (if_neg (hne .timeStep)))).symm
  · rw [Arch.read_regOffset, Arch.reset_readReg]

theorem Arch.reset_key (k : Fin 16) : Arch.reset.key[k] = 0 := by
  revert k
  decide

theorem writeCtrl_arch (s : State) (v : Word) : (s.writeCtrl v).arch
    = if v.getLsbD 1 then State.reset.arch else { s.arch with irqEn := v.getLsbD 0 } :=
  apply_ite State.arch ..

theorem writeCtrl_pending (s : State) (v : Word) : (s.writeCtrl v).pending = s.pending := by
  rw [State.writeCtrl]
  split <;> rfl

/-- A write to CTRL at the host's turn (R24). -/
theorem step_write_ctrl {s : State} {v : Word} {rest : List HostAction} (ht : s.hostTurn)
    (hp : s.pending = .write (Config.otpeBase + 0x008) 4 v :: rest) :
    step s = .next (((s.advance rest).writeCtrl v).respond { error := false, data := 0 }) := by
  rw [step_write (by decide) (by decide) hp ht, busWrite_ctrl]

/-- Settles O4: either source is a step into the reset registers, and these are read off. -/
theorem bothResetSourcesGiveResetValues : Obligations.BothResetSourcesGiveResetValues := by
  intro s action rest hp ht haction
  obtain ⟨t, hstep, hpending, harch⟩ : ∃ t, step s = .next t ∧ t.pending = rest ∧ t.arch = Arch.reset := by
    rcases haction with rfl | ⟨v, hv, rfl⟩
    · exact ⟨_, step_host hp ht, rfl, rfl⟩
    · exact ⟨_, step_write_ctrl ht hp, writeCtrl_pending _ v, (writeCtrl_arch _ v).trans (if_pos hv)⟩
  refine ⟨t, hstep, hpending, harch, ?_⟩
  rw [harch]
  exact ⟨rfl, rfl, Arch.reset_key, Arch.reset_read⟩

/-! ### CTRL and STATUS -/

theorem Arch.read_ctrl (a : Arch) : a.read 0x008 = if a.irqEn then 1 else 0 := a.read_regOffset .ctrl

/-- Settles O44: the write is `writeCtrl` in every state, and CTRL reads IRQ_EN alone. -/
theorem ctrlWriteSetsIrqEnOrResets : Obligations.CtrlWriteSetsIrqEnOrResets := by
  refine ⟨rfl, fun s v rest ht hp => ?_⟩
  refine ⟨_, step_write_ctrl ht hp, writeCtrl_arch _ v, Arch.read_ctrl _, fun hirq => ?_, rfl⟩
  rw [Arch.irq, hirq, Bool.true_and]

/-- Settles O45: STATUS is the sum of its fields, and a write to it is `writeStatus` in every state. -/
theorem statusFieldsAndWriteOneToClear : Obligations.StatusFieldsAndWriteOneToClear := by
  refine ⟨fun a => ⟨?_, a.errCode.toNat_le_five⟩, fun s v rest ht hp => ?_⟩
  · exact (congrArg BitVec.toNat (a.read_regOffset .status)).trans a.statusWord_toNat
  · refine ⟨_, step_write (by decide) (by decide) hp ht, ?_⟩
    rw [busWrite_status]
    rfl

/-! ### Dropped and ignored writes -/

/-- Settles O43: a read is `hostRead`, a write to CTRL or STATUS is taken, and `busWrite_busy` drops any other. -/
theorem writesWhileBusyAreDropped : Obligations.WritesWhileBusyAreDropped := by
  refine ⟨fun s off rest hoff halign hb hl hp => ?_, fun s off v rest hoff halign hb hl hp => ?_⟩
  · refine ⟨_, step_read hoff hp (.inr hl), ?_, rfl⟩
    exact congrArg some (s.arch.busRead_supported (busSupported_iff.2 ⟨rfl, halign⟩))
  · refine ⟨_, step_write hoff halign hp (.inr hl), rfl, ?_⟩
    rw [State.respond_arch]
    by_cases hctrl : off = 0x008
    · rw [if_pos hctrl, hctrl, busWrite_ctrl, writeCtrl_arch]
      rfl
    · by_cases hstatus : off = 0x00C
      · rw [if_neg hctrl, if_pos hstatus, hstatus, busWrite_status]
        rfl
      · rw [if_neg hctrl, if_neg hstatus, busWrite_busy (s.advance rest) off v hb hctrl hstatus]
        rfl

theorem regAt_of_reserved {off : Nat} (h : reservedOffset off) : regAt off = none := by
  rcases offset_cases off with hnone | ⟨r, rfl⟩
  · exact hnone
  · exfalso
    cases r with
    | cand k | din k | key k | otpAscii k =>
      have := k.isLt
      simp only [reservedOffset, regOffset] at h
      omega
    | _ => simp [reservedOffset, regOffset] at h

/-- The read-only registers (R23). -/
def readOnlyRegs : List Reg :=
  [.id, .version, .truncVal, .otpBin, .otpLen, .otpAscii 0, .otpAscii 1, .otpAscii 2, .tctrLo, .tctrHi, .vres,
    .matchCtrLo, .matchCtrHi]

theorem readOnlyOffsets_eq : readOnlyOffsets = readOnlyRegs.map regOffset := rfl

theorem readOnlyRegs_ne {r : Reg} (h : r ∈ readOnlyRegs) : r ≠ .ctrl ∧ r ≠ .status ∧ r ≠ .cmd := by
  revert h r
  decide

theorem Arch.store_readOnly (a : Arch) (v : Word) {r : Reg} (h : r ∈ readOnlyRegs) : a.store v r = a := by
  simp only [readOnlyRegs, List.mem_cons, List.not_mem_nil, or_false] at h
  rcases h with rfl | rfl | rfl | rfl | rfl | rfl | rfl | rfl | rfl | rfl | rfl | rfl | rfl <;> rfl

/-- While Idle a write to a reserved or read-only offset changes nothing (R23, R43). -/
theorem busWrite_idle_ignored {s : State} {off : Nat} (v : Word) (hi : s.arch.BUSY = false)
    (h : reservedOffset off ∨ off ∈ readOnlyOffsets) : s.busWrite off v = s := by
  rcases h with hres | hro
  · simp only [State.busWrite, regAt_of_reserved hres, hi, Bool.false_eq_true, if_false]
  · rw [readOnlyOffsets_eq, List.mem_map] at hro
    obtain ⟨r, hr, rfl⟩ := hro
    rw [busWrite_idle s r v hi (readOnlyRegs_ne hr), Arch.store_readOnly _ v hr]

theorem ne_ctrl_status_of_ignored {off : Nat} (h : reservedOffset off ∨ off ∈ readOnlyOffsets) :
    off ≠ 0x008 ∧ off ≠ 0x00C := by
  rcases h with hres | hro
  · rw [reservedOffset] at hres
    omega
  · revert hro off
    decide

/-- Settles O49: no register stands at a reserved offset; while Busy the write is dropped, while Idle it is ignored. -/
theorem reservedAndReadOnlyIgnoreWrites : Obligations.ReservedAndReadOnlyIgnoreWrites := by
  refine ⟨fun a off h => a.read_of_regAt_none (regAt_of_reserved h), ?_⟩
  intro s off v rest hoff halign hignored ht hp
  refine ⟨_, step_write hoff halign hp ht, rfl, ?_⟩
  rw [State.respond_arch]
  cases hb : s.arch.BUSY with
  | true =>
    obtain ⟨hctrl, hstatus⟩ := ne_ctrl_status_of_ignored hignored
    rw [busWrite_busy (s.advance rest) off v hb hctrl hstatus]
    rfl
  | false =>
    rw [busWrite_idle_ignored (s := s.advance rest) v hb hignored]
    rfl

end Sys2Proof.Machine
end

section
/-! Operand writes while Idle (spec/10_state.md R27 to R36): what they store, and what every register reads as
afterwards. -/

namespace Sys2Proof.Machine

/-- The readable operand registers (R27 to R35). -/
def readableOperands : List Reg :=
  [.cfg, .timeStep, .keyLen, .counterLo, .counterHi, .timeLo, .timeHi, .candLen, .dinLen, .cand 0, .cand 1, .cand 2,
    .cand 3, .din 0, .din 1, .din 2, .din 3, .din 4]

/-- The bits of a readable operand register that are stored. -/
def storedBits : Reg → Word
  | .cfg => 0x0000FF0F
  | .keyLen | .candLen | .dinLen => 0x000000FF
  | _ => 0xFFFFFFFF

theorem readBackMasks_eq : readBackMasks = readableOperands.map (fun r => (regOffset r, storedBits r)) := rfl

theorem readableOperands_ne {r : Reg} (h : r ∈ readableOperands) :
    (r ≠ .ctrl ∧ r ≠ .status ∧ r ≠ .cmd) ∧ ∀ k, r ≠ .key k := by
  revert h r
  decide

/-- An operand write at the host's turn while Idle (R240, R243). -/
theorem step_store {s : State} {r : Reg} {v : Word} {rest : List HostAction}
    (hr : r ≠ .ctrl ∧ r ≠ .status ∧ r ≠ .cmd) (hf : s.arch.fsm = .idle)
    (hp : s.pending = .write (Config.otpeBase + regOffset r) 4 v :: rest) :
    step s = .next (State.respond { s.advance rest with arch := s.arch.store v r } { error := false, data := 0 }) := by
  have hidle : (s.advance rest).arch.BUSY = false := Arch.BUSY_of_idle hf
  rw [step_write (regOffset_lt r).1 (regOffset_lt r).2 hp (.inl hf), busWrite_idle _ r v hidle hr]
  rfl

@[simp] theorem Arch.store_fsm (a : Arch) (v : Word) (r : Reg) : (a.store v r).fsm = a.fsm := by
  cases r <;> rfl

theorem Arch.store_sameResults (a : Arch) (v : Word) (r : Reg) : (a.store v r).sameResults a := by
  cases r <;> exact ⟨rfl, rfl, rfl⟩

theorem Arch.store_key_of_ne (a : Arch) (v : Word) {r : Reg} (h : ∀ k, r ≠ .key k) : (a.store v r).key = a.key := by
  cases r with
  | key k => exact absurd rfl (h k)
  | _ => rfl

/-- A write to one register leaves what the others read as. -/
theorem Arch.store_readReg_of_ne (a : Arch) (v : Word) {r r' : Reg} (h : r' ≠ r) :
    (a.store v r).readReg r' = a.readReg r' := by
  cases r with
  | cand k =>
    cases r' with
    | cand j => exact Vector.getElem_set_ne k.isLt j.isLt fun hkj => h (congrArg Reg.cand (Fin.ext hkj.symm))
    | _ => rfl
  | din k =>
    cases r' with
    | din j => exact Vector.getElem_set_ne k.isLt j.isLt fun hkj => h (congrArg Reg.din (Fin.ext hkj.symm))
    | _ => rfl
  | key k => cases r' <;> rfl
  | cfg | timeStep | keyLen | counterLo | counterHi | timeLo | timeHi | candLen | dinLen =>
    cases r' <;> simp only [ne_eq, reduceCtorEq, not_false_eq_true, not_true_eq_false] at h <;> rfl
  | _ => rfl

/-- The low byte of a word, read zero-extended, is the word masked. -/
theorem setWidth_extractLsb'_byte (v : Word) : (v.extractLsb' 0 8).setWidth 32 = v &&& 0x000000FF := by
  apply BitVec.eq_of_toNat_eq
  rw [toNat_setWidth_word _ (by decide), BitVec.toNat_and]
  exact (Nat.and_two_pow_sub_one_eq_mod _ 8).symm

/-- CFG's two fields in their places are the word masked. -/
theorem cfg_readBack (v : Word) :
    (v.extractLsb' 0 4).setWidth 32 ||| ((v.extractLsb' 8 8).setWidth 32 <<< 8) = v &&& 0x0000FF0F := by
  ext i hi
  interval_cases i <;> simp

/-- A readable operand register reads back in its stored bits. -/
theorem Arch.store_readReg_self (a : Arch) (v : Word) {r : Reg} (h : r ∈ readableOperands) :
    (a.store v r).readReg r = v &&& storedBits r := by
  have hall : v = v &&& 0xFFFFFFFF := (BitVec.and_allOnes (x := v)).symm
  cases r with
  | cfg => exact cfg_readBack v
  | keyLen | candLen | dinLen => exact setWidth_extractLsb'_byte v
  | timeStep | counterLo | counterHi | timeLo | timeHi => exact hall
  | cand k => exact (Vector.getElem_set_self _).trans hall
  | din k => exact (Vector.getElem_set_self _).trans hall
  | key k => exact absurd rfl ((readableOperands_ne h).2 k)
  | otpAscii k =>
    simp [readableOperands] at h
  | _ => exact absurd h (by decide)

/-- Settles O47: the write is a store, which shows only in its own register's reads. -/
theorem operandWritesReadBack : Obligations.OperandWritesReadBack := by
  intro s v rest off mask hmem hf hp
  rw [readBackMasks_eq, List.mem_map] at hmem
  obtain ⟨r, hr, hoffmask⟩ := hmem
  obtain ⟨rfl, rfl⟩ := Prod.mk.inj hoffmask
  obtain ⟨hne, hkey⟩ := readableOperands_ne hr
  refine ⟨_, step_store hne hf hp, ?_, fun off' hoff' => ?_, s.arch.store_key_of_ne v hkey,
    (s.arch.store_fsm v r).trans hf, s.arch.store_sameResults v r⟩
  · exact (Arch.read_regOffset _ r).trans (s.arch.store_readReg_self v hr)
  · exact Arch.read_congr fun r' hr' => s.arch.store_readReg_of_ne v fun heq => hoff' (heq ▸ hr')

/-! ### The key registers (R36) -/

theorem Arch.read_withKey (a : Arch) (key : Vector Word 16) (off : Nat) : (a.withKey key).read off = a.read off :=
  Arch.read_congr fun r _ => by cases r <;> rfl

/-- Settles O48: the write is a store of one key word, and no register reads the key. -/
theorem keyRegistersAreWriteOnly : Obligations.KeyRegistersAreWriteOnly := by
  refine ⟨fun s k v rest hf hp => ?_, Arch.read_withKey⟩
  rw [Nat.add_assoc] at hp
  refine ⟨_, step_store (r := .key k) (by simp) hf hp, Vector.getElem_set_self _, fun j hj => ?_,
    s.arch.read_withKey _, Arch.read_regOffset _ (.key k)⟩
  exact Vector.getElem_set_ne k.isLt j.isLt fun hkj => hj (Fin.ext hkj.symm)

end Sys2Proof.Machine
end

section
/-! The operand views after an operand write (spec/30_encoding.md R103; spec/20_memory.md R75, R76). -/

namespace Sys2Proof.Machine

/-! ### Byte buffers -/

theorem bufBytes_take (ws : List Word) {m n : Nat} (h : m ≤ n) : (bufBytes ws n).take m = bufBytes ws m := by
  rw [bufBytes, ← List.map_take, List.take_range, Nat.min_eq_left h, bufBytes]

/-- The word after a whole word of bytes. -/
theorem setWordBytes_append {pre : List Byte} (h : pre.length = 4) (bytes : List Byte) (k : Nat) (v : Word) :
    setWordBytes (pre ++ bytes) (k + 1) v = pre ++ setWordBytes bytes k v := by
  have hstart : 4 * (k + 1) = pre.length + 4 * k := by omega
  rw [setWordBytes, hstart, Nat.add_assoc, List.take_length_add_append, List.drop_length_add_append, setWordBytes,
    List.append_assoc, List.append_assoc, List.append_assoc]

/-- Four bytes of a buffer change with its word, big-endian (R75). -/
theorem bufBytes_set (ws : List Word) (k : Nat) (v : Word) {n : Nat} (hk : k < ws.length) (hn : 4 * k + 4 ≤ n) :
    bufBytes (ws.set k v) n = setWordBytes (bufBytes ws n) k v := by
  induction ws generalizing k n with
  | nil => exact absurd hk (Nat.not_lt_zero k)
  | cons w ws ih =>
    obtain ⟨m, rfl⟩ := Nat.exists_eq_add_of_le (Nat.le_trans (Nat.le_add_left 4 (4 * k)) hn)
    cases k with
    | zero =>
      have hdrop : (beBytes 4 w.toNat ++ bufBytes ws m).drop 4 = bufBytes ws m := List.drop_left' (beBytes_length 4 _)
      rw [List.set_cons_zero, bufBytes_cons, bufBytes_cons, setWordBytes, Nat.mul_zero, Nat.zero_add, hdrop,
        List.take_zero, List.nil_append]
    | succ k =>
      rw [List.set_cons_succ, bufBytes_cons, bufBytes_cons, setWordBytes_append (beBytes_length 4 _),
        ih k (Nat.lt_of_succ_lt_succ hk) (by omega)]

/-- A write of a word of a buffer register is a write of four of its bytes. -/
theorem bufBytes_vector_set {n : Nat} (ws : Vector Word n) (k : Fin n) (v : Word) :
    bufBytes (ws.set k v).toList (4 * n) = setWordBytes (bufBytes ws.toList (4 * n)) k v := by
  rw [Vector.toList_set, bufBytes_set _ _ _ (by simp) (by omega)]

/-! ### The views -/

/-- The operand registers, KEY0 to KEY15 among them (R27 to R36). -/
def operandRegs : List Reg := readableOperands ++ (List.finRange 16).map Reg.key

theorem operandOffsets_eq : operandOffsets = operandRegs.map regOffset := by decide

theorem operandRegs_ne {r : Reg} (h : r ∈ operandRegs) : r ≠ .ctrl ∧ r ≠ .status ∧ r ≠ .cmd := by
  revert h r
  decide

/-- Above the scalar registers a write is to one of the three buffers. -/
theorem afterWrite_buffer (w : OperandViews) {off : Nat} (v : Word) (h : 0x040 ≤ off) : w.afterWrite off v =
    if off < 0x050 then { w with cand := setWordBytes w.cand ((off - 0x040) / 4) v }
    else if off < 0x080 then { w with din := setWordBytes w.din ((off - 0x050) / 4) v }
    else { w with key := setWordBytes w.key ((off - 0x080) / 4) v } := by
  have hne (n : Nat) (hn : n < 0x040) : off ≠ n := by omega
  rw [OperandViews.afterWrite, if_neg (hne 0x014 (by decide)), if_neg (hne 0x018 (by decide)),
    if_neg (hne 0x01C (by decide)), if_neg (hne 0x020 (by decide)), if_neg (hne 0x024 (by decide)),
    if_neg (hne 0x028 (by decide)), if_neg (hne 0x02C (by decide)), if_neg (hne 0x030 (by decide)),
    if_neg (hne 0x034 (by decide))]

theorem afterWrite_cand (w : OperandViews) (v : Word) (k : Fin 4) :
    w.afterWrite (0x040 + 4 * k.val) v = { w with cand := setWordBytes w.cand k v } := by
  rw [afterWrite_buffer w v (by omega), if_pos (by omega), show (0x040 + 4 * k.val - 0x040) / 4 = k by omega]

theorem afterWrite_din (w : OperandViews) (v : Word) (k : Fin 5) :
    w.afterWrite (0x050 + 4 * k.val) v = { w with din := setWordBytes w.din k v } := by
  rw [afterWrite_buffer w v (by omega), if_neg (by omega), if_pos (by omega),
    show (0x050 + 4 * k.val - 0x050) / 4 = k by omega]

theorem afterWrite_key (w : OperandViews) (v : Word) (k : Fin 16) :
    w.afterWrite (0x080 + 4 * k.val) v = { w with key := setWordBytes w.key k v } := by
  rw [afterWrite_buffer w v (by omega), if_neg (by omega), if_neg (by omega),
    show (0x080 + 4 * k.val - 0x080) / 4 = k by omega]

theorem toNat_extractLsb'_field (v : Word) (start len : Nat) :
    (v.extractLsb' start len).toNat = v.toNat / 2 ^ start % 2 ^ len := by
  rw [BitVec.extractLsb'_toNat, Nat.shiftRight_eq_div_pow]

theorem toNat_extractLsb'_low (v : Word) (len : Nat) : (v.extractLsb' 0 len).toNat = v.toNat % 2 ^ len := by
  rw [toNat_extractLsb'_field, pow_zero, Nat.div_one]

/-- A store of an operand register is the write of its view (R103). -/
theorem Arch.store_views (a : Arch) (v : Word) {r : Reg} (h : r ∈ operandRegs) :
    (a.store v r).views = a.views.afterWrite (regOffset r) v := by
  cases r with
  | cfg =>
    have hdigits : (a.store v .cfg).DIGITS = v.toNat % 2 ^ 4 := toNat_extractLsb'_low v 4
    have hlook : (a.store v .cfg).LOOKAHEAD = v.toNat / 2 ^ 8 % 2 ^ 8 := toNat_extractLsb'_field v 8 8
    rw [Arch.views, hdigits, hlook]
    rfl
  | timeStep => rfl
  | keyLen => exact congrArg (fun n => { a.views with keyLen := n }) (toNat_extractLsb'_low v 8)
  | candLen => exact congrArg (fun n => { a.views with candLen := n }) (toNat_extractLsb'_low v 8)
  | dinLen => exact congrArg (fun n => { a.views with dinLen := n }) (toNat_extractLsb'_low v 8)
  | counterLo =>
    have hhi := (pairValue_div a.counterHi a.counterLo).symm
    exact congrArg (fun n => { a.views with counter := 2 ^ 32 * n + v.toNat }) hhi
  | counterHi =>
    have hlo := (pairValue_mod a.counterHi a.counterLo).symm
    exact congrArg (fun n => { a.views with counter := 2 ^ 32 * v.toNat + n }) hlo
  | timeLo =>
    have hhi := (pairValue_div a.timeHi a.timeLo).symm
    exact congrArg (fun n => { a.views with time := 2 ^ 32 * n + v.toNat }) hhi
  | timeHi =>
    have hlo := (pairValue_mod a.timeHi a.timeLo).symm
    exact congrArg (fun n => { a.views with time := 2 ^ 32 * v.toNat + n }) hlo
  | cand k =>
    rw [regOffset, afterWrite_cand]
    exact congrArg (fun b => { a.views with cand := b }) (bufBytes_vector_set a.cand k v)
  | din k =>
    rw [regOffset, afterWrite_din]
    exact congrArg (fun b => { a.views with din := b }) (bufBytes_vector_set a.din k v)
  | key k =>
    rw [regOffset, afterWrite_key]
    exact congrArg (fun b => { a.views with key := b }) (bufBytes_vector_set a.key k v)
  | otpAscii k => simp [operandRegs, readableOperands] at h
  | _ => exact absurd h (by decide)

/-- Settles O56: the write is a store, whose views `store_views` gives register by register. -/
theorem operandWritesSetTheViews : Obligations.OperandWritesSetTheViews := by
  refine ⟨fun s v rest off hmem hf hp => ?_, fun a hlen => (bufBytes_take a.key.toList hlen).symm⟩
  rw [operandOffsets_eq, List.mem_map] at hmem
  obtain ⟨r, hr, rfl⟩ := hmem
  exact ⟨_, step_store (operandRegs_ne hr) hf hp, s.arch.store_views v hr⟩

end Sys2Proof.Machine
end

section
/-! Sequences of operand writes while Idle: LOADKEY, SETCTR and SETTIME (spec/30_encoding.md R107). -/

namespace Sys2Proof.Machine

/-- The registers after writes to operand registers, in order. -/
def Arch.storeAll (a : Arch) (l : List (Reg × Word)) : Arch := l.foldl (fun b p => b.store p.2 p.1) a

/-- The transactions of writes to registers. -/
def regWrites (l : List (Reg × Word)) : List HostAction := l.map fun p => writeAt (regOffset p.1) p.2

theorem Arch.storeAll_append (a : Arch) (l l' : List (Reg × Word)) :
    a.storeAll (l ++ l') = (a.storeAll l).storeAll l' :=
  List.foldl_append ..

/-- Operand writes taken while Idle are stored one a step. -/
theorem runsTo_regWrites (l : List (Reg × Word)) (hl : ∀ p ∈ l, p.1 ≠ .ctrl ∧ p.1 ≠ .status ∧ p.1 ≠ .cmd) {s : State}
    {rest : List HostAction} (hf : s.arch.fsm = .idle) (hp : s.pending = regWrites l ++ rest) :
    ∃ t, runsTo (regWrites l).length s t ∧ t.arch = s.arch.storeAll l ∧ t.pending = rest := by
  induction l generalizing s with
  | nil => exact ⟨s, runsTo_zero s, rfl, hp⟩
  | cons p l ih =>
    obtain ⟨u, hstep, hstored, hleft⟩ :
        ∃ u, step s = .next u ∧ u.arch = s.arch.store p.2 p.1 ∧ u.pending = regWrites l ++ rest :=
      ⟨_, step_store (hl p List.mem_cons_self) hf hp, rfl, rfl⟩
    have hidle : u.arch.fsm = .idle := by rw [hstored, Arch.store_fsm, hf]
    obtain ⟨t, hrun, harch, hpending⟩ := ih (fun q hq => hl q (List.mem_cons_of_mem p hq)) hidle hleft
    exact ⟨t, runsTo_succ hstep hrun, by rw [harch, hstored]; rfl, hpending⟩

/-- Settles O55: either line is two stores, of the two halves of the value. -/
theorem setCounterAndTimeWriteThePairs : Obligations.SetCounterAndTimeWriteThePairs := by
  refine fun s n rest hn hf => ⟨fun hp => ?_, fun hp => ?_⟩
  · obtain ⟨t, hrun, harch, hpending⟩ :=
      runsTo_regWrites [(.counterLo, loHalf n), (.counterHi, hiHalf n)] (by simp) hf hp
    exact ⟨t, hrun, harch ▸ pairValue_halves n hn, hpending, harch ▸ rfl⟩
  · obtain ⟨t, hrun, harch, hpending⟩ :=
      runsTo_regWrites [(.timeLo, loHalf n), (.timeHi, hiHalf n)] (by simp) hf hp
    exact ⟨t, hrun, harch ▸ pairValue_halves n hn, hpending, harch ▸ rfl⟩

/-! ### LOADKEY -/

/-- The stores of the first `m` words of a key. -/
def keyStores (f : Nat → Word) (m : Nat) : List (Reg × Word) := (List.range m).map fun k => (.key (Fin.ofNat 16 k), f k)

/-- The key buffer after its first `m` words were written. -/
def keyWritten (key : Vector Word 16) (f : Nat → Word) (m : Nat) : Vector Word 16 :=
  Vector.ofFn fun j => if j.val < m then f j.val else key[j]

theorem keyWritten_succ (key : Vector Word 16) (f : Nat → Word) {m : Nat} (hm : m < 16) :
    keyWritten key f (m + 1) = (keyWritten key f m).set m (f m) := by
  ext j hj
  simp only [keyWritten, Vector.getElem_ofFn, Vector.getElem_set]
  by_cases hmj : m = j
  · subst hmj
    simp
  · have hlt : j < m + 1 ↔ j < m := by omega
    simp [hmj, hlt]

theorem Arch.storeAll_keyStores (a : Arch) (f : Nat → Word) {m : Nat} (hm : m ≤ 16) :
    a.storeAll (keyStores f m) = a.withKey (keyWritten a.key f m) := by
  induction m with
  | zero =>
    have hkey : keyWritten a.key f 0 = a.key := by
      ext j hj
      simp [keyWritten]
    rw [hkey]
    rfl
  | succ m ih =>
    have hlast : keyStores f (m + 1) = keyStores f m ++ [(Reg.key (Fin.ofNat 16 m), f m)] := by
      rw [keyStores, List.range_succ, List.map_append]
      rfl
    have hidx : m % 16 = m := Nat.mod_eq_of_lt hm
    rw [hlast, Arch.storeAll_append, ih (by omega), keyWritten_succ _ _ hm]
    simp only [Arch.storeAll, List.foldl_cons, List.foldl_nil, Arch.store, Arch.withKey, Fin.val_ofNat, hidx]

/-- A byte of a written word of the key buffer. -/
theorem bufByte_keyWritten (key : Vector Word 16) (s : List Byte) {m j : Nat} (hm : m ≤ 16) (hj : j / 4 < m)
    (hs : j < s.length) :
    bufByte (keyWritten key (packWord (s ++ zeros 3)) m).toList j = s.getD j 0 := by
  have hlen : (s ++ zeros 3).length = s.length + 3 := by simp
  have hword : (keyWritten key (packWord (s ++ zeros 3)) m).toList.getD (j / 4) 0
      = packWord (s ++ zeros 3) (j / 4) := by
    rw [List.getD_eq_getElem _ _ (by simp; omega)]
    simp [keyWritten, hj]
  rw [bufByte, hword, packWord_byte _ _ _ (Nat.mod_lt j (by decide)) (by omega), Nat.div_add_mod,
    List.getD_append _ _ _ _ hs]

theorem loadKey_regs_ne (f : Nat → Word) (m : Nat) (v : Word) :
    ∀ p ∈ keyStores f m ++ [(Reg.keyLen, v)], p.1 ≠ .ctrl ∧ p.1 ≠ .status ∧ p.1 ≠ .cmd := by
  intro p hp
  rcases List.mem_append.1 hp with hkey | hlen
  · obtain ⟨k, -, rfl⟩ := List.mem_map.1 hkey
    simp
  · obtain rfl := List.mem_singleton.1 hlen
    simp

/-- LOADKEY writes the words that hold a byte of the key, and then its length. -/
theorem expandOp_loadKey (key : List Byte) :
    expandOp (.loadKey key) = regWrites (keyStores (packWord (key ++ zeros 3)) (min 16 ((key.length + 3) / 4))
      ++ [(Reg.keyLen, BitVec.ofNat 32 key.length)]) := by
  rw [expandOp, bufferWrites, regWrites, List.map_append, keyStores, List.map_map]
  congr 1
  refine List.map_congr_left fun k hk => ?_
  have hidx : k % 16 = k := Nat.mod_eq_of_lt (by have := List.mem_range.1 hk; omega)
  simp only [Function.comp_apply, regOffset, Fin.val_ofNat, hidx]
  rfl

/-- LOADKEY's writes change nothing but the key and its length. -/
theorem Arch.frame_of_loadKey {a b : Arch} {key : Vector Word 16} {v : Word}
    (h : b = (a.withKey key).storeAll [(.keyLen, v)]) : b = { a with key := b.key, keyLen := b.keyLen } := by
  subst h
  rfl

/-- Settles O54: the line is the stores of the key's words and of its length, and the words give the bytes back. -/
theorem loadKeyLoadsTheKey : Obligations.LoadKeyLoadsTheKey := by
  intro s key rest hwf hf hp
  have hlen : key.length ≤ 64 := of_decide_eq_true hwf
  rw [expandOp_loadKey] at hp ⊢
  obtain ⟨t, hrun, harch, hpending⟩ := runsTo_regWrites _ (loadKey_regs_ne _ _ _) hf hp
  rw [Arch.storeAll_append, Arch.storeAll_keyStores _ _ (by omega)] at harch
  refine ⟨t, hrun, ?_, hpending, Arch.frame_of_loadKey harch⟩
  have hkeylen : t.arch.KEYLEN = key.length := by
    rw [harch]
    refine (toNat_extractLsb'_low (BitVec.ofNat 32 key.length) 8).trans ?_
    rw [BitVec.toNat_ofNat]
    omega
  rw [Arch.K, hkeylen, bufBytes_eq_iff, harch]
  exact fun j hj => bufByte_keyWritten s.arch.key key (by omega) (by omega) hj

end Sys2Proof.Machine
end

section
/-! Packed digests (spec/20_memory.md R75). -/

namespace Sys2Proof.Machine

/-- Settles O53: five packed words hold 20 bytes, and a buffer byte is its word shifted down. -/
theorem packedWordsGiveTheBytesBack : Obligations.PackedWordsGiveTheBytesBack := by
  refine fun d hlen => ⟨bufBytes_packed d 5 hlen, fun j hj => ?_⟩
  rw [← Nat.div_add_mod j 4, ← packWord_byte d (j / 4) (j % 4) (Nat.mod_lt j (by decide)) (by omega),
    toNat_extractLsb'_field, Nat.div_add_mod]
  rfl

end Sys2Proof.Machine
end

section
/-! Polling STATUS.BUSY while a command is in flight (spec/30_encoding.md R107; spec/44_control.md R248). -/

namespace Sys2Proof.Machine

/-- The one action of WAIT: poll bit 0 of STATUS for 0. -/
def pollBusy : HostAction := .poll (Config.otpeBase + 0x00C) 1 0

theorem expandOp_wait : expandOp .wait = [pollBusy] := rfl

theorem and_one_eq_zero_iff (x : Word) : x &&& 1 = 0 ↔ x.getLsbD 0 = false := by
  have h : x &&& 1 = (BitVec.ofBool (x.getLsbD 0)).setWidth 32 := BitVec.and_one_eq_setWidth_ofBool_getLsbD
  rw [h]
  cases x.getLsbD 0 <;> decide

/-- What the host sees of STATUS under the mask of WAIT is BUSY. -/
theorem Arch.pollBusy_seen (a : Arch) : (a.busRead 0x00C 4).data &&& 1 = 0 ↔ a.BUSY = false := by
  have hread : (a.busRead 0x00C 4).data = a.statusWord := a.read_regOffset .status
  have hbit : a.statusWord.getLsbD 0 = a.BUSY := by
    rw [Arch.statusWord_getLsbD_low a 0 (by decide)]
    simp
  rw [hread, and_one_eq_zero_iff, hbit]

/-- A poll that sees its value is one read. -/
theorem hostStep_pollBusy_idle (s : State) (rest : List HostAction) (h : s.arch.BUSY = false) :
    s.hostStep pollBusy rest = (s.advance rest).hostRead 0x00C 4 := by
  simp only [State.hostStep, pollBusy, windowOffset_base 0x00C (by decide), s.arch.pollBusy_seen.2 h, if_true]

/-- A poll that does not see its value stays the next action. -/
theorem hostStep_pollBusy_busy (s : State) (rest : List HostAction) (h : s.arch.BUSY = true) :
    s.hostStep pollBusy rest = { (s.advance rest).hostRead 0x00C 4 with pending := pollBusy :: rest } := by
  have hseen : ¬ (s.arch.busRead 0x00C 4).data &&& 1 = 0 := fun hz => by
    cases h.symm.trans (s.arch.pollBusy_seen.1 hz)
  simp only [State.hostStep, pollBusy, windowOffset_base 0x00C (by decide), if_neg hseen]

theorem wait_run (n : Nat) {s : State} {w : Word} {rest : List HostAction} (hf : s.arch.fsm = .busy w)
    (hn : s.latency = n) (hp : s.pending = pollBusy :: rest) :
    ∃ t, runsTo (n + 2) s t ∧ t.pending = rest ∧ t.arch.fsm = .idle ∧ t.arch.done = true
      ∧ t.resp = some { error := false, data := t.arch.read 0x00C } := by
  induction n generalizing s with
  | zero =>
    have hidle := s.arch.completed_fsm w
    have hpoll := step_host (s := { s with arch := s.arch.completed w }) hp (.inl hidle)
    rw [hostStep_pollBusy_idle _ rest (Arch.BUSY_of_idle hidle)] at hpoll
    exact ⟨_, runsTo_succ (step_completes hf (.inr hn)) (runsTo_one hpoll), rfl, hidle, s.arch.completed_done w, rfl⟩
  | succ n ih =>
    have hpoll := step_host hp (.inr (by omega))
    rw [hostStep_pollBusy_busy s rest (Arch.BUSY_of_busy hf)] at hpoll
    obtain ⟨t, hrun, hend⟩ := ih (s := { (s.advance rest).hostRead 0x00C 4 with pending := pollBusy :: rest }) hf
      (by simp [hn]) rfl
    exact ⟨t, runsTo_succ hpoll hrun, hend⟩

/-- Settles O52: each poll while Busy counts one step of the latency, and the poll after the completion ends WAIT. -/
theorem pollingBusyTerminates : Obligations.PollingBusyTerminates := by
  intro s w rest hf hp
  rw [expandOp_wait] at hp
  exact wait_run s.latency hf rfl hp

end Sys2Proof.Machine
end

section
/-! The invariant of the result registers (spec/10_state.md R25, R38 to R42; spec/44_control.md R240). -/

namespace Sys2Proof.Machine

/-- OTP_BIN has at most OTP_LEN digits, and OTP_ASCII holds its decimal string and zeros (R38 to R40). -/
structure OtpResults.Agree (o : OtpResults) : Prop where
  len_le   : o.otpLen.toNat ≤ 9
  bin_lt   : o.otpBin.toNat < 10 ^ o.otpLen.toNat
  ascii_eq : bufBytes o.otpAscii.toList 12
    = decimal o.otpBin.toNat o.otpLen.toNat ++ zeros (12 - o.otpLen.toNat)

/-- MATCH_IDX and MATCH_CTR are 0 without a match, and a match needs an evaluated position (R42). -/
structure MatchResults.Agree (m : MatchResults) : Prop where
  noMatch_idx : m.valid = false → m.matchIdx = 0
  noMatch_ctr : m.valid = false → pairValue m.matchCtrHi m.matchCtrLo = 0
  valid_tried : m.valid = true → 0 < m.ntried.toNat

/-- The invariant is one of DONE and of the two groups of result registers. -/
theorem Arch.inv_iff (a : Arch) :
    a.Inv ↔ (a.BUSY = true → a.done = false) ∧ a.otpResults.Agree ∧ a.matchResults.Agree :=
  ⟨fun ⟨hbusy, hlen, hbin, hascii, hidx, hctr, htried⟩ => ⟨hbusy, ⟨hlen, hbin, hascii⟩, ⟨hidx, hctr, htried⟩⟩,
    fun ⟨hbusy, ⟨hlen, hbin, hascii⟩, ⟨hidx, hctr, htried⟩⟩ => ⟨hbusy, hlen, hbin, hascii, hidx, hctr, htried⟩⟩

/-- Settles O5: every result register is 0 after reset, and OTP_ASCII is the empty string and zeros. -/
theorem resetMeetsInvariant : Obligations.ResetMeetsInvariant := by
  constructor <;> decide

/-- An update that leaves the result registers keeps the invariant if it does not set DONE while Busy. -/
theorem Arch.Inv.of_sameResults {a b : Arch} (h : a.Inv) (hsame : b.otpResults = a.otpResults)
    (hmatch : b.matchResults = a.matchResults) (hbusy : b.BUSY = true → b.done = false) : b.Inv := by
  rw [Arch.inv_iff] at h ⊢
  rw [hsame, hmatch]
  exact ⟨hbusy, h.2⟩

/-! ### The result writes -/

/-- `WriteOTP` leaves an OTP number with its length and its string. -/
theorem Arch.writeOtp_agree (a : Arch) (k : List Byte) (c : Nat) {n : Nat} (hn : n ≤ 9) :
    (a.writeOtp k c n).otpResults.Agree := by
  obtain ⟨-, hbin, hascii⟩ := a.writeOtp_values k c hn
  have hlen : (a.writeOtp k c n).otpLen.toNat = n := by
    rw [Arch.writeOtp_otpLen, BitVec.toNat_ofNat, Nat.mod_eq_of_lt (by omega)]
  refine ⟨hlen.trans_le hn, ?_, ?_⟩
  · calc (a.writeOtp k c n).otpBin.toNat = (truncOf k c).toNat % 10 ^ n := hbin
      _ < 10 ^ n := Nat.mod_lt _ (by positivity)
      _ = 10 ^ (a.writeOtp k c n).otpLen.toNat := by rw [hlen]
  · exact (congrArg (fun l => decimal (a.writeOtp k c n).otpBin.toNat l ++ zeros (12 - l)) hlen) ▸ hascii

/-- The window loop writes a position of its window, or zeros. -/
theorem Arch.writeVres_agree (a b : Arch) {w : List (Nat × Nat)} (hlen : w.length < 2 ^ 8) :
    (b.writeVres w (a.scan w)).matchResults.Agree := by
  rw [Arch.scan_eq_find]
  cases hfind : w.find? fun p => decide (a.matchesAt p.2) with
  | none => exact ⟨fun _ => rfl, fun _ => rfl, nofun⟩
  | some p =>
    refine ⟨nofun, nofun, fun _ => ?_⟩
    have hpos := List.length_pos_of_mem (List.mem_of_find?_eq_some hfind)
    exact hpos.trans_eq ((BitVec.toNat_ofNat ..).trans (Nat.mod_eq_of_lt hlen)).symm

theorem Arch.errorOf_none_digits {a : Arch} {i : Instr} (h : a.errorOf i = none) (hgen : i = .hotpGen ∨ i = .totpGen) :
    a.DIGITS ≤ 9 := by
  rcases hgen with rfl | rfl
  · exact ((hotpError_none a).1 h).1.2
  · exact ((totpError_none a).1 h).1.2

/-- ZEROIZE leaves the result registers as a reset does. -/
theorem Arch.zeroized_agree (a : Arch) : a.zeroized.otpResults.Agree ∧ a.zeroized.matchResults.Agree :=
  ((Arch.inv_iff Arch.reset).1 resetMeetsInvariant).2

/-- A command that passes its check leaves each group of results consistent. -/
theorem Arch.writes_agree {a : Arch} {i : Instr} (herr : a.errorOf i = none) (ho : a.otpResults.Agree)
    (hm : a.matchResults.Agree) : (a.writes i).otpResults.Agree ∧ (a.writes i).matchResults.Agree := by
  cases i with
  | nop => exact ⟨ho, hm⟩
  | trunc => exact ⟨⟨ho.len_le, ho.bin_lt, ho.ascii_eq⟩, hm⟩
  | hotpGen => exact ⟨a.writeOtp_agree _ _ (Arch.errorOf_none_digits herr (.inl rfl)), hm⟩
  | totpGen => exact ⟨Arch.writeOtp_agree _ _ _ (Arch.errorOf_none_digits herr (.inr rfl)), hm⟩
  | hotpVal =>
    have hlook : a.LOOKAHEAD < 2 ^ 8 := a.lookahead.isLt
    exact ⟨ho, a.writeVres_agree a (by rw [hotpWindow_length]; omega)⟩
  | totpVal => exact ⟨ho, a.writeVres_agree _ (by rw [totpWindow_length]; split_ifs <;> decide)⟩
  | zeroize => exact a.zeroized_agree

/-! ### The steps -/

/-- A completion keeps the invariant, whatever the word. -/
theorem Arch.Inv.completed {a : Arch} (h : a.Inv) (w : Word) : (a.completed w).Inv := by
  have hidle : (a.completed w).BUSY = true → (a.completed w).done = false := fun hb => by
    cases hb.symm.trans (Arch.BUSY_of_idle (a.completed_fsm w))
  obtain ⟨-, ho, hm⟩ := a.inv_iff.1 h
  refine (Arch.inv_iff _).2 ⟨hidle, ?_⟩
  rw [Arch.completed, Arch.resultOf]
  cases decode w with
  | error e => exact ⟨ho, hm⟩
  | ok i =>
    rcases a.finishWith_result_cases i with ⟨herr, hres⟩ | ⟨code, -, hres⟩ <;> simp only [hres]
    · exact Arch.writes_agree herr ho hm
    · exact ⟨ho, hm⟩

/-- A write at an aligned offset keeps the invariant: only CMD starts the engine, and it clears DONE. -/
theorem Arch.Inv.busWrite {s : State} (h : s.arch.Inv) (off : Nat) (v : Word) : (s.busWrite off v).arch.Inv := by
  rcases busWrite_cases s off v with ⟨-, -, hw⟩ | ⟨-, -, hw⟩ | ⟨-, hw⟩ | ⟨-, -, -, hw⟩ | ⟨-, -, hw⟩
    | ⟨hidle, r, -, -, -, -, hw⟩ | ⟨-, -, hw⟩ <;> rw [hw]
  · exact resetMeetsInvariant
  · exact h.of_sameResults rfl rfl h.busy_not_done
  · refine h.of_sameResults rfl rfl fun hb => ?_
    rw [Arch.writeStatus_done, h.busy_not_done hb, Bool.false_and]
  · exact h.of_sameResults rfl rfl h.busy_not_done
  · exact h.of_sameResults rfl rfl fun _ => rfl
  · obtain ⟨ho, hm, -⟩ := s.arch.store_sameResults v r
    refine h.of_sameResults ho hm fun hb => ?_
    have hbusy : (s.arch.store v r).BUSY = s.arch.BUSY := by rw [Arch.BUSY, Arch.store_fsm, Arch.BUSY]
    cases hb.symm.trans (hbusy.trans hidle)
  · exact h

theorem Arch.Inv.hostStep {s : State} (h : s.arch.Inv) (action : HostAction) (rest : List HostAction) :
    (s.hostStep action rest).arch.Inv := by
  rcases hostStep_cases s action rest with ⟨-, hs⟩ | ⟨_, _, v, off, -, -, hs⟩ | ⟨_, _, -, hs⟩ <;> rw [hs]
  · exact resetMeetsInvariant
  · exact Arch.Inv.busWrite (s := s.advance rest) h off v
  · exact h

/-- Settles O16: a step is a completion, which writes each group of results consistently, or a host action, which
writes none. -/
theorem stepKeepsInvariant : Obligations.StepKeepsInvariant := by
  intro s t h hstep
  cases hm : s.nextMove with
  | engine w =>
    obtain ⟨hf, hturn⟩ := nextMove_engine.1 hm
    obtain rfl := Host.Outcome.next.inj ((step_completes hf hturn).symm.trans hstep)
    exact h.completed w
  | host action rest =>
    obtain ⟨hp, hturn⟩ := nextMove_host.1 hm
    obtain rfl := Host.Outcome.next.inj ((step_host hp hturn).symm.trans hstep)
    exact h.hostStep action rest
  | waiting =>
    obtain ⟨hf, hp⟩ := nextMove_waiting.1 hm
    cases (step_waiting hf hp).symm.trans hstep

end Sys2Proof.Machine
end

section
/-! SHA-1 padding, the lengths of the hashes, and published vectors (spec/40_hmac_sha1.md R130 to R137). -/

namespace Sys2Proof.Machine

/-- Settles O37: `k` is below 64, and the sums below it run through other remainders. -/
theorem sha1PaddingIsLeast : Obligations.Sha1PaddingIsLeast := by
  intro m _
  refine ⟨(64 + 55 - m.length % 64) % 64, by omega, fun j hj => by omega, rfl, ?_⟩
  simp only [sha1Pad, List.length_append, List.length_cons, List.length_nil, zeros_length, beBytes_length]
  omega

@[simp] theorem sha1_length (m : List Byte) : (sha1 m).length = 20 := digest_length _

theorem hmacKey_of_le {k : List Byte} (h : k.length ≤ 64) : hmacKey k = k ++ zeros (64 - k.length) := if_pos h

theorem hmacKey_of_gt {k : List Byte} (h : 64 < k.length) : hmacKey k = sha1 k ++ zeros 44 :=
  if_neg (Nat.not_le.2 h)

@[simp] theorem hmacKey_length (k : List Byte) : (hmacKey k).length = 64 := by
  rcases Nat.lt_or_ge 64 k.length with h | h
  · simp [hmacKey_of_gt h]
  · simp [hmacKey_of_le h, h]

/-- A long key is prepared as its hash is (R136). -/
theorem hmacKey_sha1 {k : List Byte} (h : 64 < k.length) : hmacKey (sha1 k) = hmacKey k := by
  rw [hmacKey_of_le (by simp), hmacKey_of_gt h, sha1_length]

/-- Settles O38: a hash is a digest of five words, a long key is prepared as its hash, and the three published vectors
are evaluated. -/
theorem hmacLengthsAndLongKeys : Obligations.HmacLengthsAndLongKeys := by
  refine ⟨sha1_length, hmacKey_length, fun k text => sha1_length _, fun k text h => ?_, ?_, ?_, ?_⟩
  · rw [hmacSha1, hmacSha1, hmacKey_sha1 h]
  all_goals decide +kernel

end Sys2Proof.Machine
end

section
/-! The TOTP counter, and a generated OTP as a candidate (spec/42_otp_generate.md R182; spec/43_validate.md R218). -/

namespace Sys2Proof.Machine

/-- Settles O40: the floor quotient by the division algorithm, and TCTR by its two halves. -/
theorem totpCounterIsFloorAndFits : Obligations.TotpCounterIsFloorAndFits := by
  refine ⟨fun t ts ht hts _ => ⟨Nat.div_mul_le_self t ts, Nat.lt_mul_of_div_lt (Nat.lt_succ_self _) hts, ?_⟩,
    fun a c hc => a.writeTctr_TCTR (by omega), by decide, by decide, by decide⟩
  exact Nat.le_pred_of_lt ((Nat.div_le_self t ts).trans_lt ht)

/-- A candidate with the length and the bytes of the OTP that `WriteOTP` stored matches at its counter. -/
theorem matchesAt_of_writeOtp {a u : Arch} {c : Nat} (hn : u.DIGITS ≤ 9)
    (hlen : u.CANDLEN = u.DIGITS)
    (hbytes : ∀ j < u.DIGITS, u.candByte j = (a.writeOtp u.K c u.DIGITS).otpAsciiBytes.getD j 0) : u.matchesAt c := by
  refine ⟨hlen, fun j hj => ?_⟩
  rw [hbytes j hj, Arch.writeOtp_otpAsciiBytes a u.K c u.DIGITS hn, Arch.writeOtp_otpBin_toNat a u.K c u.DIGITS hn,
    List.getD_append _ _ _ _ (by simpa using hj), otpStr]

/-- HOTP_VAL on legal operands finds a match at COUNTER64 at position 0 (R213). -/
theorem afterHotpVal_of_matchesAt {u : Arch} (hlook : 1 ≤ u.LOOKAHEAD) (hmatch : u.matchesAt u.COUNTER64) :
    u.afterHotpVal.valid = true ∧ u.afterHotpVal.matchIdx = 0 ∧ u.afterHotpVal.MATCHCTR = u.COUNTER64 := by
  have hctr : u.COUNTER64 < 2 ^ 64 := pairValue_lt _ _
  rcases u.afterHotpVal_cases with ⟨-, -, -, hnone⟩ | ⟨i, -, hvalid, hidx, hmc, -, hfirst⟩
  · exact absurd hmatch (hnone 0 (by omega))
  · obtain rfl : i = 0 := by
      by_contra hi
      exact hfirst 0 (Nat.pos_of_ne_zero hi) hmatch
    exact ⟨hvalid, BitVec.eq_of_toNat_eq hidx, hmc⟩

/-- HOTP_GEN answers the code NONE only on legal operands. -/
theorem hotpLegal_of_errCode_none {s t : State} (h : exec .hotpGen s = .next t) (hcode : t.arch.errCode = .none) :
    s.arch.hotpLegal := by
  obtain rfl := exec_inv h
  rcases s.arch.finishWith_result_cases .hotpGen with ⟨herr, -⟩ | ⟨code, herr, hres⟩
  · obtain ⟨⟨hlo, hhi⟩, hkey⟩ := (hotpError_none s.arch).1 herr
    exact ⟨hlo, hhi, hkey⟩
  · rw [hres, Arch.finish_errCode] at hcode
    exact absurd (hcode ▸ herr) s.arch.hotpError_ne_some_none

/-- Settles O31: HOTP_GEN succeeded, so its operands are legal and OTP_ASCII holds the OTP of COUNTER64, which is then
the first position of the window. -/
theorem generatedOtpValidates : Obligations.GeneratedOtpValidates := by
  intro s t u hgen hcode hK hctr hdig hlook hlen hbytes
  have hlegal := hotpLegal_of_errCode_none hgen hcode
  obtain rfl := Host.Outcome.next.inj ((exec_hotpGen_legal hlegal).symm.trans hgen)
  obtain ⟨hlo, hhi, hkey⟩ := hlegal
  have hotplen : (BitVec.ofNat 4 s.arch.DIGITS).toNat = u.arch.DIGITS := by
    rw [hdig, BitVec.toNat_ofNat, Nat.mod_eq_of_lt (by omega)]
  have hkeylen : u.arch.KEYLEN = s.arch.KEYLEN := by simpa [Arch.K] using congrArg List.length hK
  have hmatch : u.arch.matchesAt u.arch.COUNTER64 := by
    refine matchesAt_of_writeOtp (a := s.arch) (hdig ▸ hhi) (hlen.trans hotplen) fun j hj => ?_
    rw [hK, hctr, hdig]
    exact hbytes j (hj.trans_eq hotplen.symm)
  have herr : u.arch.hotpError = none := (hotpError_none _).2 ⟨by omega, by omega⟩
  obtain ⟨hvalid, hidx, hmc⟩ := afterHotpVal_of_matchesAt hlook hmatch
  exact ⟨_, exec_of_none u.arch.result_hotpVal herr, rfl, hvalid, hidx, hmc.trans hctr⟩

end Sys2Proof.Machine
end
